-- ==== Sys2Proof/Word.lean ====
section
/-! DEFINITION. The word types of the machine (spec/00_scope.md rule R7): bytes and 16-bit addresses. -/

namespace Sys2Proof

/-- `u8` of R7: an 8-bit value, arithmetic on it wraps modulo 256. -/
abbrev Byte := BitVec 8

/-- `u16` of R7: a 16-bit value (the PC and every CPU address), arithmetic on it wraps modulo 65536 (R83). -/
abbrev Addr := BitVec 16

end Sys2Proof
end

