-- ==== Sys2Proof/Machine/Bits.lean ====
section
/-! DEFINITION. Bit fields and byte order (spec/00_scope.md rules R7, R8; spec/20_memory.md rule R80). -/

namespace Sys2Proof.Machine

/-- `{h, l}` of R7: the 16-bit value 256*h + l. -/
def word (h l : Byte) : Addr := h ++ l

/-- Bits 15..8 of an address: its page. -/
def hiByte (a : Addr) : Byte := a.extractLsb' 8 8

/-- Bits 7..0 of an address. -/
def loByte (a : Addr) : Byte := a.extractLsb' 0 8

/-- `v[lo + k - 1 : lo]` replaced by `f`; the other bits of `v` unchanged. -/
def setField {n k : Nat} (v : BitVec n) (lo : Nat) (f : BitVec k) : BitVec n :=
  (v &&& ~~~((BitVec.allOnes k).setWidth n <<< lo)) ||| (f.setWidth n <<< lo)

/-- `v[i]` replaced by `b`. -/
def setBit {n : Nat} (v : BitVec n) (i : Nat) (b : Bool) : BitVec n :=
  setField v i (BitVec.ofBool b)

/-- `sext_8` of R8, to 16 bits: the signed reading of a branch offset, modulo 65536. -/
def signExtend8 (d : Byte) : Addr := d.signExtend 16

/-- A zero-page address: upper byte 0 (R112). -/
def zpAddr (z : Byte) : Addr := z.setWidth 16

end Sys2Proof.Machine
end

