-- ==== Sys2Proof/Syntax.lean ====
section
/-! DEFINITION. The instructions: one constructor per row of spec/opcode_table.json, the defined opcodes first, then the unknown
ones, each in the table's order (spec/30_encoding.md rules R126, R128). `d` is the operand byte of format F2, `a` the operand word
of format F3 (R111). The 105 unknown opcodes are instructions too: R236 gives them a meaning. -/

namespace Sys2Proof

inductive Instr where
  /-- 0x00 `BRK` (R232, R113) -/
  | brk
  /-- 0x01 `ORA ($nn,X)` (R163, R122) -/
  | oraIzx (d : Byte)
  /-- 0x05 `ORA $nn` (R163, R116) -/
  | oraZp (d : Byte)
  /-- 0x06 `ASL $nn` (R190, R116) -/
  | aslZp (d : Byte)
  /-- 0x08 `PHP` (R222, R113) -/
  | php
  /-- 0x09 `ORA #$nn` (R163, R115) -/
  | oraImm (d : Byte)
  /-- 0x0A `ASL A` (R190, R114) -/
  | aslAcc
  /-- 0x0D `ORA $nnnn` (R163, R119) -/
  | oraAbs (a : Addr)
  /-- 0x0E `ASL $nnnn` (R190, R119) -/
  | aslAbs (a : Addr)
  /-- 0x10 `BPL label` (R209, R125) -/
  | bplRel (d : Byte)
  /-- 0x11 `ORA ($nn),Y` (R163, R123) -/
  | oraIzy (d : Byte)
  /-- 0x15 `ORA $nn,X` (R163, R117) -/
  | oraZpx (d : Byte)
  /-- 0x16 `ASL $nn,X` (R190, R117) -/
  | aslZpx (d : Byte)
  /-- 0x18 `CLC` (R224, R113) -/
  | clc
  /-- 0x19 `ORA $nnnn,Y` (R163, R121) -/
  | oraAby (a : Addr)
  /-- 0x1D `ORA $nnnn,X` (R163, R120) -/
  | oraAbx (a : Addr)
  /-- 0x1E `ASL $nnnn,X` (R190, R120) -/
  | aslAbx (a : Addr)
  /-- 0x20 `JSR $nnnn` (R201, R119) -/
  | jsrAbs (a : Addr)
  /-- 0x21 `AND ($nn,X)` (R162, R122) -/
  | andIzx (d : Byte)
  /-- 0x24 `BIT $nn` (R168, R116) -/
  | bitZp (d : Byte)
  /-- 0x25 `AND $nn` (R162, R116) -/
  | andZp (d : Byte)
  /-- 0x26 `ROL $nn` (R192, R116) -/
  | rolZp (d : Byte)
  /-- 0x28 `PLP` (R223, R113) -/
  | plp
  /-- 0x29 `AND #$nn` (R162, R115) -/
  | andImm (d : Byte)
  /-- 0x2A `ROL A` (R192, R114) -/
  | rolAcc
  /-- 0x2C `BIT $nnnn` (R168, R119) -/
  | bitAbs (a : Addr)
  /-- 0x2D `AND $nnnn` (R162, R119) -/
  | andAbs (a : Addr)
  /-- 0x2E `ROL $nnnn` (R192, R119) -/
  | rolAbs (a : Addr)
  /-- 0x30 `BMI label` (R208, R125) -/
  | bmiRel (d : Byte)
  /-- 0x31 `AND ($nn),Y` (R162, R123) -/
  | andIzy (d : Byte)
  /-- 0x35 `AND $nn,X` (R162, R117) -/
  | andZpx (d : Byte)
  /-- 0x36 `ROL $nn,X` (R192, R117) -/
  | rolZpx (d : Byte)
  /-- 0x38 `SEC` (R225, R113) -/
  | sec
  /-- 0x39 `AND $nnnn,Y` (R162, R121) -/
  | andAby (a : Addr)
  /-- 0x3D `AND $nnnn,X` (R162, R120) -/
  | andAbx (a : Addr)
  /-- 0x3E `ROL $nnnn,X` (R192, R120) -/
  | rolAbx (a : Addr)
  /-- 0x40 `RTI` (R233, R113) -/
  | rti
  /-- 0x41 `EOR ($nn,X)` (R164, R122) -/
  | eorIzx (d : Byte)
  /-- 0x45 `EOR $nn` (R164, R116) -/
  | eorZp (d : Byte)
  /-- 0x46 `LSR $nn` (R191, R116) -/
  | lsrZp (d : Byte)
  /-- 0x48 `PHA` (R220, R113) -/
  | pha
  /-- 0x49 `EOR #$nn` (R164, R115) -/
  | eorImm (d : Byte)
  /-- 0x4A `LSR A` (R191, R114) -/
  | lsrAcc
  /-- 0x4C `JMP $nnnn` (R200, R119) -/
  | jmpAbs (a : Addr)
  /-- 0x4D `EOR $nnnn` (R164, R119) -/
  | eorAbs (a : Addr)
  /-- 0x4E `LSR $nnnn` (R191, R119) -/
  | lsrAbs (a : Addr)
  /-- 0x50 `BVC label` (R210, R125) -/
  | bvcRel (d : Byte)
  /-- 0x51 `EOR ($nn),Y` (R164, R123) -/
  | eorIzy (d : Byte)
  /-- 0x55 `EOR $nn,X` (R164, R117) -/
  | eorZpx (d : Byte)
  /-- 0x56 `LSR $nn,X` (R191, R117) -/
  | lsrZpx (d : Byte)
  /-- 0x58 `CLI` (R226, R113) -/
  | cli
  /-- 0x59 `EOR $nnnn,Y` (R164, R121) -/
  | eorAby (a : Addr)
  /-- 0x5D `EOR $nnnn,X` (R164, R120) -/
  | eorAbx (a : Addr)
  /-- 0x5E `LSR $nnnn,X` (R191, R120) -/
  | lsrAbx (a : Addr)
  /-- 0x60 `RTS` (R202, R113) -/
  | rts
  /-- 0x61 `ADC ($nn,X)` (R160, R122) -/
  | adcIzx (d : Byte)
  /-- 0x65 `ADC $nn` (R160, R116) -/
  | adcZp (d : Byte)
  /-- 0x66 `ROR $nn` (R193, R116) -/
  | rorZp (d : Byte)
  /-- 0x68 `PLA` (R221, R113) -/
  | pla
  /-- 0x69 `ADC #$nn` (R160, R115) -/
  | adcImm (d : Byte)
  /-- 0x6A `ROR A` (R193, R114) -/
  | rorAcc
  /-- 0x6C `JMP ($nnnn)` (R200, R124) -/
  | jmpInd (a : Addr)
  /-- 0x6D `ADC $nnnn` (R160, R119) -/
  | adcAbs (a : Addr)
  /-- 0x6E `ROR $nnnn` (R193, R119) -/
  | rorAbs (a : Addr)
  /-- 0x70 `BVS label` (R211, R125) -/
  | bvsRel (d : Byte)
  /-- 0x71 `ADC ($nn),Y` (R160, R123) -/
  | adcIzy (d : Byte)
  /-- 0x75 `ADC $nn,X` (R160, R117) -/
  | adcZpx (d : Byte)
  /-- 0x76 `ROR $nn,X` (R193, R117) -/
  | rorZpx (d : Byte)
  /-- 0x78 `SEI` (R227, R113) -/
  | sei
  /-- 0x79 `ADC $nnnn,Y` (R160, R121) -/
  | adcAby (a : Addr)
  /-- 0x7D `ADC $nnnn,X` (R160, R120) -/
  | adcAbx (a : Addr)
  /-- 0x7E `ROR $nnnn,X` (R193, R120) -/
  | rorAbx (a : Addr)
  /-- 0x81 `STA ($nn,X)` (R143, R122) -/
  | staIzx (d : Byte)
  /-- 0x84 `STY $nn` (R145, R116) -/
  | styZp (d : Byte)
  /-- 0x85 `STA $nn` (R143, R116) -/
  | staZp (d : Byte)
  /-- 0x86 `STX $nn` (R144, R116) -/
  | stxZp (d : Byte)
  /-- 0x88 `DEY` (R174, R113) -/
  | dey
  /-- 0x8A `TXA` (R148, R113) -/
  | txa
  /-- 0x8C `STY $nnnn` (R145, R119) -/
  | styAbs (a : Addr)
  /-- 0x8D `STA $nnnn` (R143, R119) -/
  | staAbs (a : Addr)
  /-- 0x8E `STX $nnnn` (R144, R119) -/
  | stxAbs (a : Addr)
  /-- 0x90 `BCC label` (R204, R125) -/
  | bccRel (d : Byte)
  /-- 0x91 `STA ($nn),Y` (R143, R123) -/
  | staIzy (d : Byte)
  /-- 0x94 `STY $nn,X` (R145, R117) -/
  | styZpx (d : Byte)
  /-- 0x95 `STA $nn,X` (R143, R117) -/
  | staZpx (d : Byte)
  /-- 0x96 `STX $nn,Y` (R144, R118) -/
  | stxZpy (d : Byte)
  /-- 0x98 `TYA` (R149, R113) -/
  | tya
  /-- 0x99 `STA $nnnn,Y` (R143, R121) -/
  | staAby (a : Addr)
  /-- 0x9A `TXS` (R151, R113) -/
  | txs
  /-- 0x9D `STA $nnnn,X` (R143, R120) -/
  | staAbx (a : Addr)
  /-- 0xA0 `LDY #$nn` (R142, R115) -/
  | ldyImm (d : Byte)
  /-- 0xA1 `LDA ($nn,X)` (R140, R122) -/
  | ldaIzx (d : Byte)
  /-- 0xA2 `LDX #$nn` (R141, R115) -/
  | ldxImm (d : Byte)
  /-- 0xA4 `LDY $nn` (R142, R116) -/
  | ldyZp (d : Byte)
  /-- 0xA5 `LDA $nn` (R140, R116) -/
  | ldaZp (d : Byte)
  /-- 0xA6 `LDX $nn` (R141, R116) -/
  | ldxZp (d : Byte)
  /-- 0xA8 `TAY` (R147, R113) -/
  | tay
  /-- 0xA9 `LDA #$nn` (R140, R115) -/
  | ldaImm (d : Byte)
  /-- 0xAA `TAX` (R146, R113) -/
  | tax
  /-- 0xAC `LDY $nnnn` (R142, R119) -/
  | ldyAbs (a : Addr)
  /-- 0xAD `LDA $nnnn` (R140, R119) -/
  | ldaAbs (a : Addr)
  /-- 0xAE `LDX $nnnn` (R141, R119) -/
  | ldxAbs (a : Addr)
  /-- 0xB0 `BCS label` (R205, R125) -/
  | bcsRel (d : Byte)
  /-- 0xB1 `LDA ($nn),Y` (R140, R123) -/
  | ldaIzy (d : Byte)
  /-- 0xB4 `LDY $nn,X` (R142, R117) -/
  | ldyZpx (d : Byte)
  /-- 0xB5 `LDA $nn,X` (R140, R117) -/
  | ldaZpx (d : Byte)
  /-- 0xB6 `LDX $nn,Y` (R141, R118) -/
  | ldxZpy (d : Byte)
  /-- 0xB8 `CLV` (R228, R113) -/
  | clv
  /-- 0xB9 `LDA $nnnn,Y` (R140, R121) -/
  | ldaAby (a : Addr)
  /-- 0xBA `TSX` (R150, R113) -/
  | tsx
  /-- 0xBC `LDY $nnnn,X` (R142, R120) -/
  | ldyAbx (a : Addr)
  /-- 0xBD `LDA $nnnn,X` (R140, R120) -/
  | ldaAbx (a : Addr)
  /-- 0xBE `LDX $nnnn,Y` (R141, R121) -/
  | ldxAby (a : Addr)
  /-- 0xC0 `CPY #$nn` (R167, R115) -/
  | cpyImm (d : Byte)
  /-- 0xC1 `CMP ($nn,X)` (R165, R122) -/
  | cmpIzx (d : Byte)
  /-- 0xC4 `CPY $nn` (R167, R116) -/
  | cpyZp (d : Byte)
  /-- 0xC5 `CMP $nn` (R165, R116) -/
  | cmpZp (d : Byte)
  /-- 0xC6 `DEC $nn` (R170, R116) -/
  | decZp (d : Byte)
  /-- 0xC8 `INY` (R172, R113) -/
  | iny
  /-- 0xC9 `CMP #$nn` (R165, R115) -/
  | cmpImm (d : Byte)
  /-- 0xCA `DEX` (R173, R113) -/
  | dex
  /-- 0xCC `CPY $nnnn` (R167, R119) -/
  | cpyAbs (a : Addr)
  /-- 0xCD `CMP $nnnn` (R165, R119) -/
  | cmpAbs (a : Addr)
  /-- 0xCE `DEC $nnnn` (R170, R119) -/
  | decAbs (a : Addr)
  /-- 0xD0 `BNE label` (R207, R125) -/
  | bneRel (d : Byte)
  /-- 0xD1 `CMP ($nn),Y` (R165, R123) -/
  | cmpIzy (d : Byte)
  /-- 0xD5 `CMP $nn,X` (R165, R117) -/
  | cmpZpx (d : Byte)
  /-- 0xD6 `DEC $nn,X` (R170, R117) -/
  | decZpx (d : Byte)
  /-- 0xD8 `CLD` (R229, R113) -/
  | cld
  /-- 0xD9 `CMP $nnnn,Y` (R165, R121) -/
  | cmpAby (a : Addr)
  /-- 0xDD `CMP $nnnn,X` (R165, R120) -/
  | cmpAbx (a : Addr)
  /-- 0xDE `DEC $nnnn,X` (R170, R120) -/
  | decAbx (a : Addr)
  /-- 0xE0 `CPX #$nn` (R166, R115) -/
  | cpxImm (d : Byte)
  /-- 0xE1 `SBC ($nn,X)` (R161, R122) -/
  | sbcIzx (d : Byte)
  /-- 0xE4 `CPX $nn` (R166, R116) -/
  | cpxZp (d : Byte)
  /-- 0xE5 `SBC $nn` (R161, R116) -/
  | sbcZp (d : Byte)
  /-- 0xE6 `INC $nn` (R169, R116) -/
  | incZp (d : Byte)
  /-- 0xE8 `INX` (R171, R113) -/
  | inx
  /-- 0xE9 `SBC #$nn` (R161, R115) -/
  | sbcImm (d : Byte)
  /-- 0xEA `NOP` (R231, R113) -/
  | nop
  /-- 0xEC `CPX $nnnn` (R166, R119) -/
  | cpxAbs (a : Addr)
  /-- 0xED `SBC $nnnn` (R161, R119) -/
  | sbcAbs (a : Addr)
  /-- 0xEE `INC $nnnn` (R169, R119) -/
  | incAbs (a : Addr)
  /-- 0xF0 `BEQ label` (R206, R125) -/
  | beqRel (d : Byte)
  /-- 0xF1 `SBC ($nn),Y` (R161, R123) -/
  | sbcIzy (d : Byte)
  /-- 0xF5 `SBC $nn,X` (R161, R117) -/
  | sbcZpx (d : Byte)
  /-- 0xF6 `INC $nn,X` (R169, R117) -/
  | incZpx (d : Byte)
  /-- 0xF8 `SED` (R230, R113) -/
  | sed
  /-- 0xF9 `SBC $nnnn,Y` (R161, R121) -/
  | sbcAby (a : Addr)
  /-- 0xFD `SBC $nnnn,X` (R161, R120) -/
  | sbcAbx (a : Addr)
  /-- 0xFE `INC $nnnn,X` (R169, R120) -/
  | incAbx (a : Addr)
  /-- 0x02, unknown opcode (R236) -/
  | unknown02
  /-- 0x03, unknown opcode (R236) -/
  | unknown03
  /-- 0x04, unknown opcode (R236) -/
  | unknown04
  /-- 0x07, unknown opcode (R236) -/
  | unknown07
  /-- 0x0B, unknown opcode (R236) -/
  | unknown0B
  /-- 0x0C, unknown opcode (R236) -/
  | unknown0C
  /-- 0x0F, unknown opcode (R236) -/
  | unknown0F
  /-- 0x12, unknown opcode (R236) -/
  | unknown12
  /-- 0x13, unknown opcode (R236) -/
  | unknown13
  /-- 0x14, unknown opcode (R236) -/
  | unknown14
  /-- 0x17, unknown opcode (R236) -/
  | unknown17
  /-- 0x1A, unknown opcode (R236) -/
  | unknown1A
  /-- 0x1B, unknown opcode (R236) -/
  | unknown1B
  /-- 0x1C, unknown opcode (R236) -/
  | unknown1C
  /-- 0x1F, unknown opcode (R236) -/
  | unknown1F
  /-- 0x22, unknown opcode (R236) -/
  | unknown22
  /-- 0x23, unknown opcode (R236) -/
  | unknown23
  /-- 0x27, unknown opcode (R236) -/
  | unknown27
  /-- 0x2B, unknown opcode (R236) -/
  | unknown2B
  /-- 0x2F, unknown opcode (R236) -/
  | unknown2F
  /-- 0x32, unknown opcode (R236) -/
  | unknown32
  /-- 0x33, unknown opcode (R236) -/
  | unknown33
  /-- 0x34, unknown opcode (R236) -/
  | unknown34
  /-- 0x37, unknown opcode (R236) -/
  | unknown37
  /-- 0x3A, unknown opcode (R236) -/
  | unknown3A
  /-- 0x3B, unknown opcode (R236) -/
  | unknown3B
  /-- 0x3C, unknown opcode (R236) -/
  | unknown3C
  /-- 0x3F, unknown opcode (R236) -/
  | unknown3F
  /-- 0x42, unknown opcode (R236) -/
  | unknown42
  /-- 0x43, unknown opcode (R236) -/
  | unknown43
  /-- 0x44, unknown opcode (R236) -/
  | unknown44
  /-- 0x47, unknown opcode (R236) -/
  | unknown47
  /-- 0x4B, unknown opcode (R236) -/
  | unknown4B
  /-- 0x4F, unknown opcode (R236) -/
  | unknown4F
  /-- 0x52, unknown opcode (R236) -/
  | unknown52
  /-- 0x53, unknown opcode (R236) -/
  | unknown53
  /-- 0x54, unknown opcode (R236) -/
  | unknown54
  /-- 0x57, unknown opcode (R236) -/
  | unknown57
  /-- 0x5A, unknown opcode (R236) -/
  | unknown5A
  /-- 0x5B, unknown opcode (R236) -/
  | unknown5B
  /-- 0x5C, unknown opcode (R236) -/
  | unknown5C
  /-- 0x5F, unknown opcode (R236) -/
  | unknown5F
  /-- 0x62, unknown opcode (R236) -/
  | unknown62
  /-- 0x63, unknown opcode (R236) -/
  | unknown63
  /-- 0x64, unknown opcode (R236) -/
  | unknown64
  /-- 0x67, unknown opcode (R236) -/
  | unknown67
  /-- 0x6B, unknown opcode (R236) -/
  | unknown6B
  /-- 0x6F, unknown opcode (R236) -/
  | unknown6F
  /-- 0x72, unknown opcode (R236) -/
  | unknown72
  /-- 0x73, unknown opcode (R236) -/
  | unknown73
  /-- 0x74, unknown opcode (R236) -/
  | unknown74
  /-- 0x77, unknown opcode (R236) -/
  | unknown77
  /-- 0x7A, unknown opcode (R236) -/
  | unknown7A
  /-- 0x7B, unknown opcode (R236) -/
  | unknown7B
  /-- 0x7C, unknown opcode (R236) -/
  | unknown7C
  /-- 0x7F, unknown opcode (R236) -/
  | unknown7F
  /-- 0x80, unknown opcode (R236) -/
  | unknown80
  /-- 0x82, unknown opcode (R236) -/
  | unknown82
  /-- 0x83, unknown opcode (R236) -/
  | unknown83
  /-- 0x87, unknown opcode (R236) -/
  | unknown87
  /-- 0x89, unknown opcode (R236) -/
  | unknown89
  /-- 0x8B, unknown opcode (R236) -/
  | unknown8B
  /-- 0x8F, unknown opcode (R236) -/
  | unknown8F
  /-- 0x92, unknown opcode (R236) -/
  | unknown92
  /-- 0x93, unknown opcode (R236) -/
  | unknown93
  /-- 0x97, unknown opcode (R236) -/
  | unknown97
  /-- 0x9B, unknown opcode (R236) -/
  | unknown9B
  /-- 0x9C, unknown opcode (R236) -/
  | unknown9C
  /-- 0x9E, unknown opcode (R236) -/
  | unknown9E
  /-- 0x9F, unknown opcode (R236) -/
  | unknown9F
  /-- 0xA3, unknown opcode (R236) -/
  | unknownA3
  /-- 0xA7, unknown opcode (R236) -/
  | unknownA7
  /-- 0xAB, unknown opcode (R236) -/
  | unknownAB
  /-- 0xAF, unknown opcode (R236) -/
  | unknownAF
  /-- 0xB2, unknown opcode (R236) -/
  | unknownB2
  /-- 0xB3, unknown opcode (R236) -/
  | unknownB3
  /-- 0xB7, unknown opcode (R236) -/
  | unknownB7
  /-- 0xBB, unknown opcode (R236) -/
  | unknownBB
  /-- 0xBF, unknown opcode (R236) -/
  | unknownBF
  /-- 0xC2, unknown opcode (R236) -/
  | unknownC2
  /-- 0xC3, unknown opcode (R236) -/
  | unknownC3
  /-- 0xC7, unknown opcode (R236) -/
  | unknownC7
  /-- 0xCB, unknown opcode (R236) -/
  | unknownCB
  /-- 0xCF, unknown opcode (R236) -/
  | unknownCF
  /-- 0xD2, unknown opcode (R236) -/
  | unknownD2
  /-- 0xD3, unknown opcode (R236) -/
  | unknownD3
  /-- 0xD4, unknown opcode (R236) -/
  | unknownD4
  /-- 0xD7, unknown opcode (R236) -/
  | unknownD7
  /-- 0xDA, unknown opcode (R236) -/
  | unknownDA
  /-- 0xDB, unknown opcode (R236) -/
  | unknownDB
  /-- 0xDC, unknown opcode (R236) -/
  | unknownDC
  /-- 0xDF, unknown opcode (R236) -/
  | unknownDF
  /-- 0xE2, unknown opcode (R236) -/
  | unknownE2
  /-- 0xE3, unknown opcode (R236) -/
  | unknownE3
  /-- 0xE7, unknown opcode (R236) -/
  | unknownE7
  /-- 0xEB, unknown opcode (R236) -/
  | unknownEB
  /-- 0xEF, unknown opcode (R236) -/
  | unknownEF
  /-- 0xF2, unknown opcode (R236) -/
  | unknownF2
  /-- 0xF3, unknown opcode (R236) -/
  | unknownF3
  /-- 0xF4, unknown opcode (R236) -/
  | unknownF4
  /-- 0xF7, unknown opcode (R236) -/
  | unknownF7
  /-- 0xFA, unknown opcode (R236) -/
  | unknownFA
  /-- 0xFB, unknown opcode (R236) -/
  | unknownFB
  /-- 0xFC, unknown opcode (R236) -/
  | unknownFC
  /-- 0xFF, unknown opcode (R236) -/
  | unknownFF
  deriving DecidableEq, Repr

end Sys2Proof
end

