-- ==== Sys2Proof/Decode.lean ====
section
/-! DEFINITION. The decoder (spec/30_encoding.md rules R110 to R112, R126, R128, R132), total on any bytes, and the encoder.
The opcode byte alone decides the instruction and its length; the map is written as in the first view of R126, one function for
each row of the grid (the opcode's high nibble), one alternative for each column (its low nibble). -/

namespace Sys2Proof

/-- Row 0x0_ of the opcode map. -/
def opcodeRow0 (lo : Nat) (d : Byte) (a : Addr) : Instr :=
  match lo with
  | 0 => .brk
  | 1 => .oraIzx d
  | 2 => .unknown02
  | 3 => .unknown03
  | 4 => .unknown04
  | 5 => .oraZp d
  | 6 => .aslZp d
  | 7 => .unknown07
  | 8 => .php
  | 9 => .oraImm d
  | 10 => .aslAcc
  | 11 => .unknown0B
  | 12 => .unknown0C
  | 13 => .oraAbs a
  | 14 => .aslAbs a
  | _ => .unknown0F

/-- Row 0x1_ of the opcode map. -/
def opcodeRow1 (lo : Nat) (d : Byte) (a : Addr) : Instr :=
  match lo with
  | 0 => .bplRel d
  | 1 => .oraIzy d
  | 2 => .unknown12
  | 3 => .unknown13
  | 4 => .unknown14
  | 5 => .oraZpx d
  | 6 => .aslZpx d
  | 7 => .unknown17
  | 8 => .clc
  | 9 => .oraAby a
  | 10 => .unknown1A
  | 11 => .unknown1B
  | 12 => .unknown1C
  | 13 => .oraAbx a
  | 14 => .aslAbx a
  | _ => .unknown1F

/-- Row 0x2_ of the opcode map. -/
def opcodeRow2 (lo : Nat) (d : Byte) (a : Addr) : Instr :=
  match lo with
  | 0 => .jsrAbs a
  | 1 => .andIzx d
  | 2 => .unknown22
  | 3 => .unknown23
  | 4 => .bitZp d
  | 5 => .andZp d
  | 6 => .rolZp d
  | 7 => .unknown27
  | 8 => .plp
  | 9 => .andImm d
  | 10 => .rolAcc
  | 11 => .unknown2B
  | 12 => .bitAbs a
  | 13 => .andAbs a
  | 14 => .rolAbs a
  | _ => .unknown2F

/-- Row 0x3_ of the opcode map. -/
def opcodeRow3 (lo : Nat) (d : Byte) (a : Addr) : Instr :=
  match lo with
  | 0 => .bmiRel d
  | 1 => .andIzy d
  | 2 => .unknown32
  | 3 => .unknown33
  | 4 => .unknown34
  | 5 => .andZpx d
  | 6 => .rolZpx d
  | 7 => .unknown37
  | 8 => .sec
  | 9 => .andAby a
  | 10 => .unknown3A
  | 11 => .unknown3B
  | 12 => .unknown3C
  | 13 => .andAbx a
  | 14 => .rolAbx a
  | _ => .unknown3F

/-- Row 0x4_ of the opcode map. -/
def opcodeRow4 (lo : Nat) (d : Byte) (a : Addr) : Instr :=
  match lo with
  | 0 => .rti
  | 1 => .eorIzx d
  | 2 => .unknown42
  | 3 => .unknown43
  | 4 => .unknown44
  | 5 => .eorZp d
  | 6 => .lsrZp d
  | 7 => .unknown47
  | 8 => .pha
  | 9 => .eorImm d
  | 10 => .lsrAcc
  | 11 => .unknown4B
  | 12 => .jmpAbs a
  | 13 => .eorAbs a
  | 14 => .lsrAbs a
  | _ => .unknown4F

/-- Row 0x5_ of the opcode map. -/
def opcodeRow5 (lo : Nat) (d : Byte) (a : Addr) : Instr :=
  match lo with
  | 0 => .bvcRel d
  | 1 => .eorIzy d
  | 2 => .unknown52
  | 3 => .unknown53
  | 4 => .unknown54
  | 5 => .eorZpx d
  | 6 => .lsrZpx d
  | 7 => .unknown57
  | 8 => .cli
  | 9 => .eorAby a
  | 10 => .unknown5A
  | 11 => .unknown5B
  | 12 => .unknown5C
  | 13 => .eorAbx a
  | 14 => .lsrAbx a
  | _ => .unknown5F

/-- Row 0x6_ of the opcode map. -/
def opcodeRow6 (lo : Nat) (d : Byte) (a : Addr) : Instr :=
  match lo with
  | 0 => .rts
  | 1 => .adcIzx d
  | 2 => .unknown62
  | 3 => .unknown63
  | 4 => .unknown64
  | 5 => .adcZp d
  | 6 => .rorZp d
  | 7 => .unknown67
  | 8 => .pla
  | 9 => .adcImm d
  | 10 => .rorAcc
  | 11 => .unknown6B
  | 12 => .jmpInd a
  | 13 => .adcAbs a
  | 14 => .rorAbs a
  | _ => .unknown6F

/-- Row 0x7_ of the opcode map. -/
def opcodeRow7 (lo : Nat) (d : Byte) (a : Addr) : Instr :=
  match lo with
  | 0 => .bvsRel d
  | 1 => .adcIzy d
  | 2 => .unknown72
  | 3 => .unknown73
  | 4 => .unknown74
  | 5 => .adcZpx d
  | 6 => .rorZpx d
  | 7 => .unknown77
  | 8 => .sei
  | 9 => .adcAby a
  | 10 => .unknown7A
  | 11 => .unknown7B
  | 12 => .unknown7C
  | 13 => .adcAbx a
  | 14 => .rorAbx a
  | _ => .unknown7F

/-- Row 0x8_ of the opcode map. -/
def opcodeRow8 (lo : Nat) (d : Byte) (a : Addr) : Instr :=
  match lo with
  | 0 => .unknown80
  | 1 => .staIzx d
  | 2 => .unknown82
  | 3 => .unknown83
  | 4 => .styZp d
  | 5 => .staZp d
  | 6 => .stxZp d
  | 7 => .unknown87
  | 8 => .dey
  | 9 => .unknown89
  | 10 => .txa
  | 11 => .unknown8B
  | 12 => .styAbs a
  | 13 => .staAbs a
  | 14 => .stxAbs a
  | _ => .unknown8F

/-- Row 0x9_ of the opcode map. -/
def opcodeRow9 (lo : Nat) (d : Byte) (a : Addr) : Instr :=
  match lo with
  | 0 => .bccRel d
  | 1 => .staIzy d
  | 2 => .unknown92
  | 3 => .unknown93
  | 4 => .styZpx d
  | 5 => .staZpx d
  | 6 => .stxZpy d
  | 7 => .unknown97
  | 8 => .tya
  | 9 => .staAby a
  | 10 => .txs
  | 11 => .unknown9B
  | 12 => .unknown9C
  | 13 => .staAbx a
  | 14 => .unknown9E
  | _ => .unknown9F

/-- Row 0xA_ of the opcode map. -/
def opcodeRowA (lo : Nat) (d : Byte) (a : Addr) : Instr :=
  match lo with
  | 0 => .ldyImm d
  | 1 => .ldaIzx d
  | 2 => .ldxImm d
  | 3 => .unknownA3
  | 4 => .ldyZp d
  | 5 => .ldaZp d
  | 6 => .ldxZp d
  | 7 => .unknownA7
  | 8 => .tay
  | 9 => .ldaImm d
  | 10 => .tax
  | 11 => .unknownAB
  | 12 => .ldyAbs a
  | 13 => .ldaAbs a
  | 14 => .ldxAbs a
  | _ => .unknownAF

/-- Row 0xB_ of the opcode map. -/
def opcodeRowB (lo : Nat) (d : Byte) (a : Addr) : Instr :=
  match lo with
  | 0 => .bcsRel d
  | 1 => .ldaIzy d
  | 2 => .unknownB2
  | 3 => .unknownB3
  | 4 => .ldyZpx d
  | 5 => .ldaZpx d
  | 6 => .ldxZpy d
  | 7 => .unknownB7
  | 8 => .clv
  | 9 => .ldaAby a
  | 10 => .tsx
  | 11 => .unknownBB
  | 12 => .ldyAbx a
  | 13 => .ldaAbx a
  | 14 => .ldxAby a
  | _ => .unknownBF

/-- Row 0xC_ of the opcode map. -/
def opcodeRowC (lo : Nat) (d : Byte) (a : Addr) : Instr :=
  match lo with
  | 0 => .cpyImm d
  | 1 => .cmpIzx d
  | 2 => .unknownC2
  | 3 => .unknownC3
  | 4 => .cpyZp d
  | 5 => .cmpZp d
  | 6 => .decZp d
  | 7 => .unknownC7
  | 8 => .iny
  | 9 => .cmpImm d
  | 10 => .dex
  | 11 => .unknownCB
  | 12 => .cpyAbs a
  | 13 => .cmpAbs a
  | 14 => .decAbs a
  | _ => .unknownCF

/-- Row 0xD_ of the opcode map. -/
def opcodeRowD (lo : Nat) (d : Byte) (a : Addr) : Instr :=
  match lo with
  | 0 => .bneRel d
  | 1 => .cmpIzy d
  | 2 => .unknownD2
  | 3 => .unknownD3
  | 4 => .unknownD4
  | 5 => .cmpZpx d
  | 6 => .decZpx d
  | 7 => .unknownD7
  | 8 => .cld
  | 9 => .cmpAby a
  | 10 => .unknownDA
  | 11 => .unknownDB
  | 12 => .unknownDC
  | 13 => .cmpAbx a
  | 14 => .decAbx a
  | _ => .unknownDF

/-- Row 0xE_ of the opcode map. -/
def opcodeRowE (lo : Nat) (d : Byte) (a : Addr) : Instr :=
  match lo with
  | 0 => .cpxImm d
  | 1 => .sbcIzx d
  | 2 => .unknownE2
  | 3 => .unknownE3
  | 4 => .cpxZp d
  | 5 => .sbcZp d
  | 6 => .incZp d
  | 7 => .unknownE7
  | 8 => .inx
  | 9 => .sbcImm d
  | 10 => .nop
  | 11 => .unknownEB
  | 12 => .cpxAbs a
  | 13 => .sbcAbs a
  | 14 => .incAbs a
  | _ => .unknownEF

/-- Row 0xF_ of the opcode map. -/
def opcodeRowF (lo : Nat) (d : Byte) (a : Addr) : Instr :=
  match lo with
  | 0 => .beqRel d
  | 1 => .sbcIzy d
  | 2 => .unknownF2
  | 3 => .unknownF3
  | 4 => .unknownF4
  | 5 => .sbcZpx d
  | 6 => .incZpx d
  | 7 => .unknownF7
  | 8 => .sed
  | 9 => .sbcAby a
  | 10 => .unknownFA
  | 11 => .unknownFB
  | 12 => .unknownFC
  | 13 => .sbcAbx a
  | 14 => .incAbx a
  | _ => .unknownFF

/-- R126, R132: the instruction of an opcode byte, given the operand byte and the operand word that follow it. -/
def decodeOp (op : Byte) (d : Byte) (a : Addr) : Instr :=
  let lo := op.toNat % 16
  match op.toNat / 16 with
  | 0 => opcodeRow0 lo d a
  | 1 => opcodeRow1 lo d a
  | 2 => opcodeRow2 lo d a
  | 3 => opcodeRow3 lo d a
  | 4 => opcodeRow4 lo d a
  | 5 => opcodeRow5 lo d a
  | 6 => opcodeRow6 lo d a
  | 7 => opcodeRow7 lo d a
  | 8 => opcodeRow8 lo d a
  | 9 => opcodeRow9 lo d a
  | 10 => opcodeRowA lo d a
  | 11 => opcodeRowB lo d a
  | 12 => opcodeRowC lo d a
  | 13 => opcodeRowD lo d a
  | 14 => opcodeRowE lo d a
  | _ => opcodeRowF lo d a

/-- R110, R111: instruction lengths by opcode, rows by the high nibble. -/
def lengthRows : List (List Nat) :=
  [[1, 2, 1, 1, 1, 2, 2, 1, 1, 2, 1, 1, 1, 3, 3, 1],
   [2, 2, 1, 1, 1, 2, 2, 1, 1, 3, 1, 1, 1, 3, 3, 1],
   [3, 2, 1, 1, 2, 2, 2, 1, 1, 2, 1, 1, 3, 3, 3, 1],
   [2, 2, 1, 1, 1, 2, 2, 1, 1, 3, 1, 1, 1, 3, 3, 1],
   [1, 2, 1, 1, 1, 2, 2, 1, 1, 2, 1, 1, 3, 3, 3, 1],
   [2, 2, 1, 1, 1, 2, 2, 1, 1, 3, 1, 1, 1, 3, 3, 1],
   [1, 2, 1, 1, 1, 2, 2, 1, 1, 2, 1, 1, 3, 3, 3, 1],
   [2, 2, 1, 1, 1, 2, 2, 1, 1, 3, 1, 1, 1, 3, 3, 1],
   [1, 2, 1, 1, 2, 2, 2, 1, 1, 1, 1, 1, 3, 3, 3, 1],
   [2, 2, 1, 1, 2, 2, 2, 1, 1, 3, 1, 1, 1, 3, 1, 1],
   [2, 2, 2, 1, 2, 2, 2, 1, 1, 2, 1, 1, 3, 3, 3, 1],
   [2, 2, 1, 1, 2, 2, 2, 1, 1, 3, 1, 1, 3, 3, 3, 1],
   [2, 2, 1, 1, 2, 2, 2, 1, 1, 2, 1, 1, 3, 3, 3, 1],
   [2, 2, 1, 1, 1, 2, 2, 1, 1, 3, 1, 1, 1, 3, 3, 1],
   [2, 2, 1, 1, 2, 2, 2, 1, 1, 2, 1, 1, 3, 3, 3, 1],
   [2, 2, 1, 1, 1, 2, 2, 1, 1, 3, 1, 1, 1, 3, 3, 1]]

/-- R110: the length of the instruction whose opcode byte is `op`. -/
def lengthOf (op : Byte) : Nat := (lengthRows.getD (op.toNat / 16) []).getD (op.toNat % 16) 1

/-- Why a byte string does not begin with a whole instruction. No opcode byte is refused (R132). -/
inductive DecodeError where
  /-- there is no opcode byte -/
  | empty
  /-- the operand bytes that the opcode asks for are not all there -/
  | truncated (op : Byte)
  deriving DecidableEq, Repr

/-- R110 to R112: read one instruction from the front of a byte string, and give the bytes after it. -/
def decode : List Byte → Except DecodeError (Instr × List Byte)
  | [] => .error .empty
  | op :: rest =>
    match lengthOf op, rest with
    | 1, rest => .ok (decodeOp op 0 0, rest)
    | 2, d :: rest => .ok (decodeOp op d 0, rest)
    | 3, lo :: hi :: rest => .ok (decodeOp op 0 (Machine.word hi lo), rest)
    | _, _ => .error (.truncated op)

/-- The instruction that the decoder reads from a word numbered as spec/opcode_table.json numbers it: bits 7..0 are the first
byte, bits 15..8 the second, bits 23..16 the third. Bits from `nbits` up are 0. -/
def decodeTableWord (nbits w : Nat) : Option Instr :=
  let v := w % 2 ^ nbits
  match decode [BitVec.ofNat 8 v, BitVec.ofNat 8 (v / 256), BitVec.ofNat 8 (v / 65536)] with
  | .ok (i, _) => some i
  | .error _ => none

/-- R111, R112: the bytes of an instruction, the opcode first, a word's low byte before its high byte. -/
def encode : Instr → List Byte
  | .brk => [0x00]
  | .oraIzx d => [0x01, d]
  | .unknown02 => [0x02]
  | .unknown03 => [0x03]
  | .unknown04 => [0x04]
  | .oraZp d => [0x05, d]
  | .aslZp d => [0x06, d]
  | .unknown07 => [0x07]
  | .php => [0x08]
  | .oraImm d => [0x09, d]
  | .aslAcc => [0x0A]
  | .unknown0B => [0x0B]
  | .unknown0C => [0x0C]
  | .oraAbs a => [0x0D, Machine.loByte a, Machine.hiByte a]
  | .aslAbs a => [0x0E, Machine.loByte a, Machine.hiByte a]
  | .unknown0F => [0x0F]
  | .bplRel d => [0x10, d]
  | .oraIzy d => [0x11, d]
  | .unknown12 => [0x12]
  | .unknown13 => [0x13]
  | .unknown14 => [0x14]
  | .oraZpx d => [0x15, d]
  | .aslZpx d => [0x16, d]
  | .unknown17 => [0x17]
  | .clc => [0x18]
  | .oraAby a => [0x19, Machine.loByte a, Machine.hiByte a]
  | .unknown1A => [0x1A]
  | .unknown1B => [0x1B]
  | .unknown1C => [0x1C]
  | .oraAbx a => [0x1D, Machine.loByte a, Machine.hiByte a]
  | .aslAbx a => [0x1E, Machine.loByte a, Machine.hiByte a]
  | .unknown1F => [0x1F]
  | .jsrAbs a => [0x20, Machine.loByte a, Machine.hiByte a]
  | .andIzx d => [0x21, d]
  | .unknown22 => [0x22]
  | .unknown23 => [0x23]
  | .bitZp d => [0x24, d]
  | .andZp d => [0x25, d]
  | .rolZp d => [0x26, d]
  | .unknown27 => [0x27]
  | .plp => [0x28]
  | .andImm d => [0x29, d]
  | .rolAcc => [0x2A]
  | .unknown2B => [0x2B]
  | .bitAbs a => [0x2C, Machine.loByte a, Machine.hiByte a]
  | .andAbs a => [0x2D, Machine.loByte a, Machine.hiByte a]
  | .rolAbs a => [0x2E, Machine.loByte a, Machine.hiByte a]
  | .unknown2F => [0x2F]
  | .bmiRel d => [0x30, d]
  | .andIzy d => [0x31, d]
  | .unknown32 => [0x32]
  | .unknown33 => [0x33]
  | .unknown34 => [0x34]
  | .andZpx d => [0x35, d]
  | .rolZpx d => [0x36, d]
  | .unknown37 => [0x37]
  | .sec => [0x38]
  | .andAby a => [0x39, Machine.loByte a, Machine.hiByte a]
  | .unknown3A => [0x3A]
  | .unknown3B => [0x3B]
  | .unknown3C => [0x3C]
  | .andAbx a => [0x3D, Machine.loByte a, Machine.hiByte a]
  | .rolAbx a => [0x3E, Machine.loByte a, Machine.hiByte a]
  | .unknown3F => [0x3F]
  | .rti => [0x40]
  | .eorIzx d => [0x41, d]
  | .unknown42 => [0x42]
  | .unknown43 => [0x43]
  | .unknown44 => [0x44]
  | .eorZp d => [0x45, d]
  | .lsrZp d => [0x46, d]
  | .unknown47 => [0x47]
  | .pha => [0x48]
  | .eorImm d => [0x49, d]
  | .lsrAcc => [0x4A]
  | .unknown4B => [0x4B]
  | .jmpAbs a => [0x4C, Machine.loByte a, Machine.hiByte a]
  | .eorAbs a => [0x4D, Machine.loByte a, Machine.hiByte a]
  | .lsrAbs a => [0x4E, Machine.loByte a, Machine.hiByte a]
  | .unknown4F => [0x4F]
  | .bvcRel d => [0x50, d]
  | .eorIzy d => [0x51, d]
  | .unknown52 => [0x52]
  | .unknown53 => [0x53]
  | .unknown54 => [0x54]
  | .eorZpx d => [0x55, d]
  | .lsrZpx d => [0x56, d]
  | .unknown57 => [0x57]
  | .cli => [0x58]
  | .eorAby a => [0x59, Machine.loByte a, Machine.hiByte a]
  | .unknown5A => [0x5A]
  | .unknown5B => [0x5B]
  | .unknown5C => [0x5C]
  | .eorAbx a => [0x5D, Machine.loByte a, Machine.hiByte a]
  | .lsrAbx a => [0x5E, Machine.loByte a, Machine.hiByte a]
  | .unknown5F => [0x5F]
  | .rts => [0x60]
  | .adcIzx d => [0x61, d]
  | .unknown62 => [0x62]
  | .unknown63 => [0x63]
  | .unknown64 => [0x64]
  | .adcZp d => [0x65, d]
  | .rorZp d => [0x66, d]
  | .unknown67 => [0x67]
  | .pla => [0x68]
  | .adcImm d => [0x69, d]
  | .rorAcc => [0x6A]
  | .unknown6B => [0x6B]
  | .jmpInd a => [0x6C, Machine.loByte a, Machine.hiByte a]
  | .adcAbs a => [0x6D, Machine.loByte a, Machine.hiByte a]
  | .rorAbs a => [0x6E, Machine.loByte a, Machine.hiByte a]
  | .unknown6F => [0x6F]
  | .bvsRel d => [0x70, d]
  | .adcIzy d => [0x71, d]
  | .unknown72 => [0x72]
  | .unknown73 => [0x73]
  | .unknown74 => [0x74]
  | .adcZpx d => [0x75, d]
  | .rorZpx d => [0x76, d]
  | .unknown77 => [0x77]
  | .sei => [0x78]
  | .adcAby a => [0x79, Machine.loByte a, Machine.hiByte a]
  | .unknown7A => [0x7A]
  | .unknown7B => [0x7B]
  | .unknown7C => [0x7C]
  | .adcAbx a => [0x7D, Machine.loByte a, Machine.hiByte a]
  | .rorAbx a => [0x7E, Machine.loByte a, Machine.hiByte a]
  | .unknown7F => [0x7F]
  | .unknown80 => [0x80]
  | .staIzx d => [0x81, d]
  | .unknown82 => [0x82]
  | .unknown83 => [0x83]
  | .styZp d => [0x84, d]
  | .staZp d => [0x85, d]
  | .stxZp d => [0x86, d]
  | .unknown87 => [0x87]
  | .dey => [0x88]
  | .unknown89 => [0x89]
  | .txa => [0x8A]
  | .unknown8B => [0x8B]
  | .styAbs a => [0x8C, Machine.loByte a, Machine.hiByte a]
  | .staAbs a => [0x8D, Machine.loByte a, Machine.hiByte a]
  | .stxAbs a => [0x8E, Machine.loByte a, Machine.hiByte a]
  | .unknown8F => [0x8F]
  | .bccRel d => [0x90, d]
  | .staIzy d => [0x91, d]
  | .unknown92 => [0x92]
  | .unknown93 => [0x93]
  | .styZpx d => [0x94, d]
  | .staZpx d => [0x95, d]
  | .stxZpy d => [0x96, d]
  | .unknown97 => [0x97]
  | .tya => [0x98]
  | .staAby a => [0x99, Machine.loByte a, Machine.hiByte a]
  | .txs => [0x9A]
  | .unknown9B => [0x9B]
  | .unknown9C => [0x9C]
  | .staAbx a => [0x9D, Machine.loByte a, Machine.hiByte a]
  | .unknown9E => [0x9E]
  | .unknown9F => [0x9F]
  | .ldyImm d => [0xA0, d]
  | .ldaIzx d => [0xA1, d]
  | .ldxImm d => [0xA2, d]
  | .unknownA3 => [0xA3]
  | .ldyZp d => [0xA4, d]
  | .ldaZp d => [0xA5, d]
  | .ldxZp d => [0xA6, d]
  | .unknownA7 => [0xA7]
  | .tay => [0xA8]
  | .ldaImm d => [0xA9, d]
  | .tax => [0xAA]
  | .unknownAB => [0xAB]
  | .ldyAbs a => [0xAC, Machine.loByte a, Machine.hiByte a]
  | .ldaAbs a => [0xAD, Machine.loByte a, Machine.hiByte a]
  | .ldxAbs a => [0xAE, Machine.loByte a, Machine.hiByte a]
  | .unknownAF => [0xAF]
  | .bcsRel d => [0xB0, d]
  | .ldaIzy d => [0xB1, d]
  | .unknownB2 => [0xB2]
  | .unknownB3 => [0xB3]
  | .ldyZpx d => [0xB4, d]
  | .ldaZpx d => [0xB5, d]
  | .ldxZpy d => [0xB6, d]
  | .unknownB7 => [0xB7]
  | .clv => [0xB8]
  | .ldaAby a => [0xB9, Machine.loByte a, Machine.hiByte a]
  | .tsx => [0xBA]
  | .unknownBB => [0xBB]
  | .ldyAbx a => [0xBC, Machine.loByte a, Machine.hiByte a]
  | .ldaAbx a => [0xBD, Machine.loByte a, Machine.hiByte a]
  | .ldxAby a => [0xBE, Machine.loByte a, Machine.hiByte a]
  | .unknownBF => [0xBF]
  | .cpyImm d => [0xC0, d]
  | .cmpIzx d => [0xC1, d]
  | .unknownC2 => [0xC2]
  | .unknownC3 => [0xC3]
  | .cpyZp d => [0xC4, d]
  | .cmpZp d => [0xC5, d]
  | .decZp d => [0xC6, d]
  | .unknownC7 => [0xC7]
  | .iny => [0xC8]
  | .cmpImm d => [0xC9, d]
  | .dex => [0xCA]
  | .unknownCB => [0xCB]
  | .cpyAbs a => [0xCC, Machine.loByte a, Machine.hiByte a]
  | .cmpAbs a => [0xCD, Machine.loByte a, Machine.hiByte a]
  | .decAbs a => [0xCE, Machine.loByte a, Machine.hiByte a]
  | .unknownCF => [0xCF]
  | .bneRel d => [0xD0, d]
  | .cmpIzy d => [0xD1, d]
  | .unknownD2 => [0xD2]
  | .unknownD3 => [0xD3]
  | .unknownD4 => [0xD4]
  | .cmpZpx d => [0xD5, d]
  | .decZpx d => [0xD6, d]
  | .unknownD7 => [0xD7]
  | .cld => [0xD8]
  | .cmpAby a => [0xD9, Machine.loByte a, Machine.hiByte a]
  | .unknownDA => [0xDA]
  | .unknownDB => [0xDB]
  | .unknownDC => [0xDC]
  | .cmpAbx a => [0xDD, Machine.loByte a, Machine.hiByte a]
  | .decAbx a => [0xDE, Machine.loByte a, Machine.hiByte a]
  | .unknownDF => [0xDF]
  | .cpxImm d => [0xE0, d]
  | .sbcIzx d => [0xE1, d]
  | .unknownE2 => [0xE2]
  | .unknownE3 => [0xE3]
  | .cpxZp d => [0xE4, d]
  | .sbcZp d => [0xE5, d]
  | .incZp d => [0xE6, d]
  | .unknownE7 => [0xE7]
  | .inx => [0xE8]
  | .sbcImm d => [0xE9, d]
  | .nop => [0xEA]
  | .unknownEB => [0xEB]
  | .cpxAbs a => [0xEC, Machine.loByte a, Machine.hiByte a]
  | .sbcAbs a => [0xED, Machine.loByte a, Machine.hiByte a]
  | .incAbs a => [0xEE, Machine.loByte a, Machine.hiByte a]
  | .unknownEF => [0xEF]
  | .beqRel d => [0xF0, d]
  | .sbcIzy d => [0xF1, d]
  | .unknownF2 => [0xF2]
  | .unknownF3 => [0xF3]
  | .unknownF4 => [0xF4]
  | .sbcZpx d => [0xF5, d]
  | .incZpx d => [0xF6, d]
  | .unknownF7 => [0xF7]
  | .sed => [0xF8]
  | .sbcAby a => [0xF9, Machine.loByte a, Machine.hiByte a]
  | .unknownFA => [0xFA]
  | .unknownFB => [0xFB]
  | .unknownFC => [0xFC]
  | .sbcAbx a => [0xFD, Machine.loByte a, Machine.hiByte a]
  | .incAbx a => [0xFE, Machine.loByte a, Machine.hiByte a]
  | .unknownFF => [0xFF]

end Sys2Proof
end

