-- ==== Sys2Proof/Config.lean ====
section
/-! DEFINITION. The implementation parameters of spec/00_scope.md rule R6. A parameter with a default
is fixed at that default (log entry 5); a parameter the spec leaves open has no body here (log entry 6).
The cycle table, the mixer tables and `MergePending` stand with the operations that use them, in `Machine/`. -/

namespace Sys2Proof.Config

/-- `LINE_BUDGET`: CPU cycles per scanline. -/
def lineBudget : Nat := 114

/-- `LINES_PER_FRAME`: scanlines per frame. -/
def linesPerFrame : Nat := 262

/-- `INT_CYCLES` (D7): cycles charged for servicing an interrupt. -/
def intCycles : Nat := 7

/-- `UNKNOWN_OPCODE_CYCLES` (D8): cycles charged for an unknown opcode. -/
def unknownOpcodeCycles : Nat := 2

/-- The two values of `UNKNOWN_OPCODE_POLICY` (R236, U1). -/
inductive UnknownPolicy where
  /-- the source's behaviour: skip one byte, log, set the sticky mark -/
  | skip
  /-- a model-level stop -/
  | fault
  deriving DecidableEq, Repr

/-- `UNKNOWN_OPCODE_POLICY`: the default, `skip`. -/
def unknownOpcodePolicy : UnknownPolicy := .skip

/-- `INT_SETS_I` (D6): interrupt service sets the I flag. -/
def intSetsI : Bool := true

/-- `BRK_PC_ADVANCE` (D13): bytes by which BRK advances the PC, the opcode byte included. -/
def brkPcAdvance : Nat := 2

/-- `JMP_IND_PAGE_WRAP` (D14): the indirect JMP fetches its high byte without a carry into the pointer's high byte. -/
def jmpIndPageWrap : Bool := true

/-- `RESET_A`, `RESET_X`, `RESET_Y` (D3). -/
def resetA : Byte := 0
def resetX : Byte := 0
def resetY : Byte := 0

/-- `OAM_DMA_CYCLES` (D29). -/
def oamDmaCycles : Nat := 513

/-- `MAPPER_IDS` (D28). -/
def mapperIds : List Nat := [0, 1]

/-- `SKIP_CAP`: consecutive skip-frame requests honoured. -/
def skipCap : Nat := 4

/-- `FLUSH_IDLE_FRAMES`, `FLUSH_FORCE_FRAMES`: the save-flush thresholds of R465. -/
def flushIdleFrames : Nat := 60
def flushForceFrames : Nat := 600

/-- The buttons of a pad (`ButtonOrder`, D30). No rule of the machine reads a button by its name. -/
inductive Button where
  | a | b | select | start | up | down | left | right
  deriving DecidableEq, Repr

/-- `ButtonOrder`: the bit of a request's mask that each button has. -/
def buttonBit : Button → Nat
  | .a => 0 | .b => 1 | .select => 2 | .start => 3 | .up => 4 | .down => 5 | .left => 6 | .right => 7

/-- `Colour` (D32): (6-bit palette entry, mask register) to a 32-bit colour. Open in the spec: uninterpreted. -/
opaque colour : BitVec 6 → Byte → BitVec 32

/-- `SAMPLES_PER_SLICE` (D31): audio samples made per sequencer step. Open in the spec: uninterpreted. -/
opaque samplesPerSlice : Nat

/-- Numerator less one of `CLOCKS_PER_SAMPLE`: uninterpreted. -/
opaque clocksPerSampleNum : Nat

/-- Denominator less one of `CLOCKS_PER_SAMPLE`: uninterpreted. -/
opaque clocksPerSampleDen : Nat

/-- `CLOCKS_PER_SAMPLE` (D31): CPU clocks per audio sample, some positive rational; which one is open. -/
def clocksPerSample : Rat := ((clocksPerSampleNum + 1 : Nat) : Rat) / ((clocksPerSampleDen + 1 : Nat) : Rat)

end Sys2Proof.Config
end

