-- ==== Sys2Proof/Machine/State.lean ====
section
/-! DEFINITION. The state of the machine, block by block in the order of spec/10_state.md, as plain data;
the reasons a step can stop; and the state after reset (R53, power-on column). -/

namespace Sys2Proof.Machine

/-! ## Memories -/

/-- Sparse data by key: the listed entries of an array whose unlisted entries all read as one default value.
Canonical form (`Sparse.wf`, Machine/Memory.lean): keys strictly rising, no entry equal to the default. -/
abbrev Sparse (α : Type) := List (Nat × α)

/-- A byte memory, a list of `Host.Cell`. An unlisted byte reads as 0: R53 gives every memory of the machine
zeros at power-on (D20). -/
abbrev Memory := Sparse Byte

/-! ## CPU side -/

/-- R25: the values of the pending-interrupt tag. -/
inductive Tag where
  | none | irq | nmi | reset | brk
  deriving DecidableEq, Repr

/-- R33: the devices that a bus range can name. -/
inductive Device where
  /-- 2 KiB work RAM (R74) -/
  | wram
  /-- the eight PPU ports (R75) -/
  | ppuPorts
  /-- the APU and I/O ports (R76) -/
  | apuIo
  /-- the open device (R77) -/
  | openDev
  /-- the battery-backed save buffer (R78) -/
  | saveRam
  /-- a read-only slice of the PRG bytes whose first byte is PRG byte `base`; writes go to the mapper (R79) -/
  | prg (base : Nat)
  deriving DecidableEq, Repr

/-- One entry of `BusMap` (R33): addresses `lo..hi` belong to `dev`, with device-local offset `addr - org`.
`org` is where the range was installed: a range trimmed at its start keeps its offsets (R85). -/
structure BusRange where
  lo  : Nat
  hi  : Nat
  org : Nat
  dev : Device
  deriving DecidableEq, Repr

/-! ## Cartridge (R32: a parameter of the run, held here as constant data; log entry 1) -/

/-- R35: the nametable mirroring modes. -/
inductive Mirroring where
  | vertical | horizontal | singleLow | singleHigh | fourScreen
  deriving DecidableEq, Repr

/-- R32, R410: the parsed cartridge image. -/
structure Cart where
  /-- count of 16 KiB PRG units -/
  prgBanks         : Nat
  /-- count of 8 KiB CHR units -/
  chrBanks         : Nat
  mapperId         : Nat
  defaultMirroring : Mirroring
  battery          : Bool
  trainer          : Bool
  prg              : Memory
  chr              : Memory
  /-- R412: the save-storage key; the image itself -/
  identity         : List Byte
  deriving DecidableEq, Repr

/-- R51: mapper state. Only mapper id 1 uses it. -/
structure Mapper where
  mmcShift   : BitVec 5
  /-- 0..4, bits in the accumulator -/
  mmcCount   : Nat
  mmcControl : BitVec 5
  mmcChr0    : BitVec 5
  mmcChr1    : BitVec 5
  mmcPrg     : BitVec 5
  deriving DecidableEq, Repr

/-! ## PPU (R34 to R42) -/

/-- R41: one non-empty column of the sprite line buffer. -/
structure SpritePixel where
  /-- palette index within the sprite half of the palette -/
  index     : BitVec 4
  behind    : Bool
  isSprite0 : Bool
  deriving DecidableEq, Repr

structure Ppu where
  /-- R34: 8192 bytes -/
  pattern        : Memory
  /-- R35: the four 1 KiB buffers, byte `o` of buffer `b` at key `1024 * b + o` -/
  nt             : Memory
  /-- R36: 32 entries of 6 bits -/
  palette        : Sparse (BitVec 6)
  /-- R37: 256 bytes -/
  oam            : Memory
  mirroring      : Mirroring
  /-- R38: the loopy registers -/
  v              : BitVec 15
  t              : BitVec 15
  x              : BitVec 3
  w              : Bool
  /-- R39 -/
  ppuCtrl        : Byte
  ppuMask        : Byte
  oamAddr        : Byte
  ppuReadBuf     : Byte
  /-- R40 -/
  vblank         : Bool
  sprite0Hit     : Bool
  spriteOverflow : Bool
  /-- R41: 256 columns; an unlisted column is empty -/
  spriteLine     : Sparse (Option SpritePixel)
  /-- R42: 224 rows of 256 pixels, pixel `c` of row `r` at key `256 * r + c` -/
  frame          : Sparse (BitVec 32)
  deriving DecidableEq, Repr

/-! ## APU and I/O (R43 to R50) -/

/-- R43, R45: the envelope unit of the pulse and noise channels. `lengthHalt` is also the envelope's loop bit. -/
structure Envelope where
  lengthHalt : Bool
  constVol   : Bool
  volume     : BitVec 4
  envStart   : Bool
  envDivider : BitVec 4
  envDecay   : BitVec 4
  deriving DecidableEq, Repr

/-- R43 (and the channel's enable bit, R48). -/
structure Pulse where
  enable      : Bool
  duty        : BitVec 2
  env         : Envelope
  swEnable    : Bool
  swPeriod    : BitVec 3
  swNegate    : Bool
  swShift     : BitVec 3
  swReload    : Bool
  swDivider   : BitVec 3
  timerPeriod : BitVec 11
  timerPhase  : Rat
  seqPos      : BitVec 3
  length      : Byte
  deriving DecidableEq, Repr

/-- R44 (and the channel's enable bit, R48). `linControl` is also the length halt. -/
structure Triangle where
  enable       : Bool
  linControl   : Bool
  linReloadVal : BitVec 7
  linCounter   : BitVec 7
  linReload    : Bool
  timerPeriod  : BitVec 11
  timerPhase   : Rat
  seqPos       : BitVec 5
  length       : Byte
  deriving DecidableEq, Repr

/-- R45 (and the channel's enable bit, R48). -/
structure Noise where
  enable      : Bool
  lfsr        : BitVec 15
  mode        : Bool
  periodIndex : BitVec 4
  env         : Envelope
  timerPhase  : Rat
  length      : Byte
  deriving DecidableEq, Repr

/-- R46 (and the channel's enable bit, R48). -/
structure Dmc where
  enable     : Bool
  irqEnable  : Bool
  loop       : Bool
  rateIndex  : BitVec 4
  /-- the 7-bit delta accumulator -/
  level      : BitVec 7
  sampleAddr : Addr
  sampleLen  : BitVec 12
  curAddr    : Addr
  bytesLeft  : BitVec 12
  shift      : Byte
  bitsLeft   : BitVec 4
  bufferFull : Bool
  buffer     : Byte
  silence    : Bool
  timerPhase : Rat
  dmcIrq     : Bool
  deriving DecidableEq, Repr

structure Apu where
  pulse1          : Pulse
  pulse2          : Pulse
  triangle        : Triangle
  noise           : Noise
  dmc             : Dmc
  /-- R47: false is 4-step, true is 5-step -/
  seqMode         : Bool
  /-- R47: 0..4 -/
  seqIndex        : Nat
  frameIrqInhibit : Bool
  frameIrq        : Bool
  /-- R49: the frame's samples so far, oldest first -/
  audio           : List Byte
  deriving DecidableEq, Repr

/-- R50: the two controllers. -/
structure Pads where
  buttons1  : Byte
  buttons2  : Byte
  padShift1 : Byte
  padShift2 : Byte
  strobe    : Bool
  deriving DecidableEq, Repr

/-! ## Orchestrator and host (R52, R450 to R473) -/

/-- R52: the kind of initialisation the next `Init` is told. -/
inductive InitKind where
  | power | reset
  deriving DecidableEq, Repr

/-- Where the orchestrator's sequence (R451, R455) stands between two steps (log entry 3). -/
inductive Phase where
  /-- between requests -/
  | idle
  /-- at the top of the loop of R455, before `PreRender` of the current line -/
  | lineStart
  /-- inside `Execute` (R458) of the current line -/
  | cpu
  deriving DecidableEq, Repr

/-- R52, with the place in the sequence (`phase`) and whether the running request is a skip-frame (`skipping`). -/
structure Orchestrator where
  /-- 0..261 -/
  line      : Nat
  needInit  : Bool
  initKind  : InitKind
  /-- 0..4 -/
  skipRun   : Nat
  flushIdle : Nat
  flushBusy : Nat
  lastDirty : Nat
  halted    : Bool
  param     : Option (List Byte)
  phase     : Phase
  skipping  : Bool
  deriving DecidableEq, Repr

/-- R451: a host request. A pad without a mask keeps its buttons (R461). -/
inductive Request where
  | frame (pad1 pad2 : Option Byte)
  | skipFrame (pad1 pad2 : Option Byte)
  | reset
  | shutdown
  | setParameter (payload : Option (List Byte))
  | storageResponse (payload : List Byte)
  deriving DecidableEq, Repr

/-- R451: a response; `none` is "absent". -/
structure Response where
  pixels : Option (Sparse (BitVec 32))
  audio  : Option (List Byte)
  deriving DecidableEq, Repr

/-- R470: one call of `save(key, bytes)`. -/
structure SaveCall where
  key   : List Byte
  bytes : Memory
  deriving DecidableEq, Repr

/-- R18, R473: a logged message. -/
inductive LogMsg where
  | unknownOpcode (op : Byte) (pc : Addr)
  | storageFailure
  deriving DecidableEq, Repr

/-- The machine's boundary with the host (R472), held as data (log entry 4): what the host will send, oldest first; what
`load` will return (`none`: it fails); and what the core has sent out, oldest first. No instruction reads it. -/
structure HostIo where
  inbox   : List Request
  storage : Option (List Byte)
  outbox  : List Response
  saves   : List SaveCall
  log     : List LogMsg
  deriving DecidableEq, Repr

/-! ## The whole machine -/

structure State where
  /-- R20 -/
  a         : Byte
  x         : Byte
  y         : Byte
  /-- R21 -/
  sp        : Byte
  /-- R23: N V U B D I Z C, bit 7 down to bit 0 -/
  p         : Byte
  /-- R22 -/
  pc        : Addr
  /-- R25 -/
  pending   : Tag
  /-- R26 -/
  cyc       : Nat
  /-- R236: the sticky mark -/
  sawUnknownOpcode : Bool
  /-- R30: 2048 bytes -/
  wram      : Memory
  /-- R31: 8192 bytes, used when the cartridge's battery flag is set -/
  saveRam   : Memory
  saveDirty : Nat
  /-- R33 -/
  busMap    : List BusRange
  cart      : Cart
  mapper    : Mapper
  ppu       : Ppu
  apu       : Apu
  pads      : Pads
  orch      : Orchestrator
  io        : HostIo
  deriving DecidableEq, Repr

/-! ## The reasons a step can stop -/

/-- Why the machine can stop. The architecture itself never faults (R250). -/
inductive Fault where
  /-- Raised by an unknown opcode's meaning, only when `UNKNOWN_OPCODE_POLICY` is `fault` (R236, U1), which is not the
  policy this model is fixed at: safe, since it stops where the machine would go on. -/
  | unknownOpcode (op : Byte)
  deriving DecidableEq, Repr

/-- Why the model can have no answer. -/
inductive Refusal where
  /-- An instruction with no meaning yet; raised by `exec` only: safe. No arm of `exec` raises it. -/
  | notModelled (mnemonic : String)
  deriving DecidableEq, Repr

/-- What a step or an instruction answers. -/
abbrev Result := Host.Outcome State Fault Refusal

/-! ## Power-on values (R53) -/

/-- A blank image: one 16 KiB PRG bank of zeros, CHR RAM, mapper 0, no battery (log entry 2). -/
def Cart.blank : Cart where
  prgBanks := 1
  chrBanks := 0
  mapperId := 0
  defaultMirroring := .horizontal
  battery := false
  trainer := false
  prg := []
  chr := []
  identity := []

def Envelope.powerOn : Envelope where
  lengthHalt := false
  constVol := false
  volume := 0
  envStart := false
  envDivider := 0
  envDecay := 0

/-- R43: all 0. -/
def Pulse.powerOn : Pulse where
  enable := false
  duty := 0
  env := .powerOn
  swEnable := false
  swPeriod := 0
  swNegate := false
  swShift := 0
  swReload := false
  swDivider := 0
  timerPeriod := 0
  timerPhase := 0
  seqPos := 0
  length := 0

/-- R44: all 0. -/
def Triangle.powerOn : Triangle where
  enable := false
  linControl := false
  linReloadVal := 0
  linCounter := 0
  linReload := false
  timerPeriod := 0
  timerPhase := 0
  seqPos := 0
  length := 0

/-- R45: all 0 except `lfsr = 1`. -/
def Noise.powerOn : Noise where
  enable := false
  lfsr := 1
  mode := false
  periodIndex := 0
  env := .powerOn
  timerPhase := 0
  length := 0

/-- R46: all 0. -/
def Dmc.powerOn : Dmc where
  enable := false
  irqEnable := false
  loop := false
  rateIndex := 0
  level := 0
  sampleAddr := 0
  sampleLen := 0
  curAddr := 0
  bytesLeft := 0
  shift := 0
  bitsLeft := 0
  bufferFull := false
  buffer := 0
  silence := false
  timerPhase := 0
  dmcIrq := false

/-- R43 to R48, R53: all 0, noise `lfsr` 1. The spec gives `Audio` (R49) no value at power-on; that it starts empty is the model's choice
(log entry 10, DESIGN CHOICE). -/
def Apu.powerOn : Apu where
  pulse1 := .powerOn
  pulse2 := .powerOn
  triangle := .powerOn
  noise := .powerOn
  dmc := .powerOn
  seqMode := false
  seqIndex := 0
  frameIrqInhibit := false
  frameIrq := false
  audio := []

/-- R34 to R42: all 0, `SpriteLine` empty, mirroring the cartridge's default. The spec gives `Frame` no value (log entry 10,
DESIGN CHOICE). -/
def Ppu.powerOn (m : Mirroring) : Ppu where
  pattern := []
  nt := []
  palette := []
  oam := []
  mirroring := m
  v := 0
  t := 0
  x := 0
  w := false
  ppuCtrl := 0
  ppuMask := 0
  oamAddr := 0
  ppuReadBuf := 0
  vblank := false
  sprite0Hit := false
  spriteOverflow := false
  spriteLine := []
  frame := []

/-- R50: all 0. -/
def Pads.powerOn : Pads where
  buttons1 := 0
  buttons2 := 0
  padShift1 := 0
  padShift2 := 0
  strobe := false

/-- R51; mapper id 0 has no registers (log entry 20). -/
def Mapper.powerOn : Mapper where
  mmcShift := 0
  mmcCount := 0
  mmcControl := 0
  mmcChr0 := 0
  mmcChr1 := 0
  mmcPrg := 0

/-- R52: `line = 0`, `needInit = 1`, `initKind = power`, `param` absent, the rest 0. -/
def Orchestrator.powerOn : Orchestrator where
  line := 0
  needInit := true
  initKind := .power
  skipRun := 0
  flushIdle := 0
  flushBusy := 0
  lastDirty := 0
  halted := false
  param := none
  phase := .idle
  skipping := false

/-- The machine right after reset: the power-on column of R53 for the blank cartridge. The host has sent nothing yet.
`pc` is the word at 0xFFFC of the blank image. `reset_eq_construct` (Laws/Boot.lean) proves it equal to what construction
from that image gives. -/
def State.reset : State where
  a := Config.resetA
  x := Config.resetX
  y := Config.resetY
  sp := 0xFF
  p := 0x24
  pc := 0x0000
  pending := .none
  cyc := 0
  sawUnknownOpcode := false
  wram := []
  saveRam := []
  saveDirty := 0
  busMap := [
    { lo := 0x0000, hi := 0x1FFF, org := 0x0000, dev := .wram },
    { lo := 0x2000, hi := 0x3FFF, org := 0x2000, dev := .ppuPorts },
    { lo := 0x4000, hi := 0x401F, org := 0x4000, dev := .apuIo },
    { lo := 0x4020, hi := 0x5FFF, org := 0x4020, dev := .openDev },
    { lo := 0x6000, hi := 0x7FFF, org := 0x6000, dev := .openDev },
    { lo := 0x8000, hi := 0xBFFF, org := 0x8000, dev := .prg 0 },
    { lo := 0xC000, hi := 0xFFFF, org := 0xC000, dev := .prg 0 }]
  cart := .blank
  mapper := .powerOn
  ppu := .powerOn .horizontal
  apu := .powerOn
  pads := .powerOn
  orch := .powerOn
  io := { inbox := [], storage := none, outbox := [], saves := [], log := [] }

end Sys2Proof.Machine
end

