-- ==== Sys2Proof/Machine/Apu.lean ====
section
/-! DEFINITION. The audio channels (spec/62_apu.md): registers, envelope, length, sweep and linear counter units, the
channel outputs and the mixer. The DMC's sample reader reads the CPU bus, so it is in Machine/Ops.lean, and `StepFrame` in Machine/Audio.lean. -/

namespace Sys2Proof.Machine

/-- R359: `LengthTable`. -/
def lengthTable (i : BitVec 5) : Byte :=
  BitVec.ofNat 8 (
    [10, 254, 20, 2, 40, 4, 80, 6, 160, 8, 60, 10, 14, 12, 26, 14,
     12, 16, 24, 18, 48, 20, 96, 22, 192, 24, 72, 26, 16, 28, 32, 30].getD i.toNat 0)

/-- R390: `NoisePeriod`. -/
def noisePeriod (i : BitVec 4) : Nat :=
  [4, 8, 16, 32, 64, 96, 128, 160, 202, 254, 380, 508, 762, 1016, 2034, 4068].getD i.toNat 0

/-- R390: `DmcRate`. -/
def dmcRate (i : BitVec 4) : Nat :=
  [428, 380, 340, 320, 286, 254, 226, 214, 190, 160, 142, 128, 106, 84, 72, 54].getD i.toNat 0

/-- R390: one sample's advance of a timer of step length `S`: how many steps it makes, and the new phase. -/
def advancePhase (clocks : Rat) (S : Nat) (phase : Rat) : Nat × Rat :=
  let total := phase + clocks / S
  (total.floor.toNat, total - (total.floor.toNat : Rat))

/-- R383: the length counter's clock; `halt` is the channel's halt bit. -/
def lengthClock (halt : Bool) (length : Byte) : Byte :=
  if halt = false ∧ length ≠ 0 then length - 1 else length

/-- R358, R362, R366: a length load, made only when the channel is enabled. -/
def lengthLoad (enable : Bool) (d : Byte) (length : Byte) : Byte :=
  if enable then lengthTable (d.extractLsb' 3 5) else length

namespace Envelope

/-- R355, R364: the envelope fields of a register 0 write. -/
def writeReg (d : Byte) (e : Envelope) : Envelope :=
  { e with lengthHalt := d.getLsbD 5, constVol := d.getLsbD 4, volume := d.extractLsb' 0 4 }

/-- R382: the quarter-frame clock. -/
def clock (e : Envelope) : Envelope :=
  if e.envStart then { e with envStart := false, envDecay := 15, envDivider := e.volume }
  else if e.envDivider = 0 then
    if e.envDecay ≠ 0 then { e with envDivider := e.volume, envDecay := e.envDecay - 1 }
    else if e.lengthHalt then { e with envDivider := e.volume, envDecay := 15 }
    else { e with envDivider := e.volume }
  else { e with envDivider := e.envDivider - 1 }

/-- R382: the envelope's output. -/
def output (e : Envelope) : Nat := if e.constVol then e.volume.toNat else e.envDecay.toNat

end Envelope

namespace Pulse

/-- R355 to R358: a write to register `n` (0..3) of the channel. -/
def writeReg (n : Nat) (d : Byte) (c : Pulse) : Pulse :=
  match n with
  | 0 => { c with duty := d.extractLsb' 6 2, env := c.env.writeReg d }
  | 1 => { c with swEnable := d.getLsbD 7, swPeriod := d.extractLsb' 4 3, swNegate := d.getLsbD 3,
                  swShift := d.extractLsb' 0 3, swReload := true }
  | 2 => { c with timerPeriod := setField c.timerPeriod 0 d }
  | 3 => { c with timerPeriod := setField c.timerPeriod 8 (d.extractLsb' 0 3),
                  length := lengthLoad c.enable d c.length, seqPos := 0,
                  env := { c.env with envStart := true } }
  | _ => c

/-- R384: the sweep's target period; `first` tells pulse 1 from pulse 2. A negative target counts as 0. -/
def sweepTarget (first : Bool) (c : Pulse) : Nat :=
  let change := c.timerPeriod.toNat >>> c.swShift.toNat
  if c.swNegate then c.timerPeriod.toNat - change - first.toNat else c.timerPeriod.toNat + change

/-- R384: muted whether or not the sweep is enabled. -/
def muted (first : Bool) (c : Pulse) : Bool :=
  decide (c.timerPeriod.toNat < 8) || decide (c.sweepTarget first > 0x7FF)

/-- R384: the half-frame clock of the sweep. -/
def sweepClock (first : Bool) (c : Pulse) : Pulse :=
  let c1 := if c.swDivider = 0 ∧ c.swEnable = true ∧ c.swShift ≠ 0 ∧ c.muted first = false
    then { c with timerPeriod := BitVec.ofNat 11 (c.sweepTarget first) } else c
  if c.swDivider = 0 ∨ c.swReload = true then { c1 with swDivider := c.swPeriod, swReload := false }
  else { c1 with swDivider := c.swDivider - 1 }

/-- R391: `Duty`. -/
def dutyTable (duty : BitVec 2) (pos : BitVec 3) : Bool :=
  let row : List Nat := match duty.toNat with
    | 0 => [0, 1, 0, 0, 0, 0, 0, 0]
    | 1 => [0, 1, 1, 0, 0, 0, 0, 0]
    | 2 => [0, 1, 1, 1, 1, 0, 0, 0]
    | _ => [1, 0, 0, 1, 1, 1, 1, 1]
  row.getD pos.toNat 0 == 1

/-- R391: the amplitude now. -/
def amplitude (first : Bool) (c : Pulse) : Nat :=
  if c.enable = false ∨ c.length = 0 ∨ c.muted first = true ∨ dutyTable c.duty c.seqPos = false then 0
  else c.env.output

/-- R390: one timer step. -/
def tick (c : Pulse) : Pulse := { c with seqPos := c.seqPos + 1 }

/-- R390: one sample's advance. -/
def advance (clocks : Rat) (c : Pulse) : Pulse :=
  let a := advancePhase clocks (2 * (c.timerPeriod.toNat + 1)) c.timerPhase
  Nat.iterate tick a.1 { c with timerPhase := a.2 }

/-- R395: the quarter-frame and half-frame work. -/
def clockUnits (first h q : Bool) (c : Pulse) : Pulse :=
  let c1 := if q then { c with env := c.env.clock } else c
  if h then sweepClock first { c1 with length := lengthClock c1.env.lengthHalt c1.length } else c1

end Pulse

namespace Triangle

/-- R360 to R363: a write to register `n` (0..3). -/
def writeReg (n : Nat) (d : Byte) (c : Triangle) : Triangle :=
  match n with
  | 0 => { c with linControl := d.getLsbD 7, linReloadVal := d.extractLsb' 0 7 }
  | 2 => { c with timerPeriod := setField c.timerPeriod 0 d }
  | 3 => { c with timerPeriod := setField c.timerPeriod 8 (d.extractLsb' 0 3),
                  length := lengthLoad c.enable d c.length, linReload := true }
  | _ => c

/-- R385: the quarter-frame clock of the linear counter. -/
def linearClock (c : Triangle) : Triangle :=
  let c1 := if c.linReload then { c with linCounter := c.linReloadVal }
    else if c.linCounter ≠ 0 then { c with linCounter := c.linCounter - 1 } else c
  if c.linControl then c1 else { c1 with linReload := false }

/-- R392: `Tri`. -/
def wave (pos : BitVec 5) : Nat := if pos.toNat < 16 then 15 - pos.toNat else pos.toNat - 16

/-- R392: the amplitude now. -/
def amplitude (c : Triangle) : Nat := if c.enable then wave c.seqPos else 0

/-- R390: one timer step, withheld when a counter has run out. -/
def tick (c : Triangle) : Triangle :=
  if c.linCounter ≠ 0 ∧ c.length ≠ 0 then { c with seqPos := c.seqPos + 1 } else c

/-- R390: one sample's advance; the phase advances even when the step is withheld. -/
def advance (clocks : Rat) (c : Triangle) : Triangle :=
  let a := advancePhase clocks (c.timerPeriod.toNat + 1) c.timerPhase
  Nat.iterate tick a.1 { c with timerPhase := a.2 }

/-- R395: the quarter-frame and half-frame work. -/
def clockUnits (h q : Bool) (c : Triangle) : Triangle :=
  let c1 := if q then c.linearClock else c
  if h then { c1 with length := lengthClock c1.linControl c1.length } else c1

end Triangle

namespace Noise

/-- R363 to R366: a write to register `n` (0..3). -/
def writeReg (n : Nat) (d : Byte) (c : Noise) : Noise :=
  match n with
  | 0 => { c with env := c.env.writeReg d }
  | 2 => { c with mode := d.getLsbD 7, periodIndex := d.extractLsb' 0 4 }
  | 3 => { c with length := lengthLoad c.enable d c.length, env := { c.env with envStart := true } }
  | _ => c

/-- R393: the amplitude now. -/
def amplitude (c : Noise) : Nat :=
  if c.enable = false ∨ c.length = 0 ∨ c.lfsr.getLsbD 0 = true then 0 else c.env.output

/-- R393: one shift of the LFSR. -/
def tick (c : Noise) : Noise :=
  let fb := c.lfsr.getLsbD 0 ^^ (if c.mode then c.lfsr.getLsbD 6 else c.lfsr.getLsbD 1)
  { c with lfsr := setBit (c.lfsr >>> 1) 14 fb }

/-- R390: one sample's advance. -/
def advance (clocks : Rat) (c : Noise) : Noise :=
  let a := advancePhase clocks (noisePeriod c.periodIndex) c.timerPhase
  Nat.iterate tick a.1 { c with timerPhase := a.2 }

/-- R395: the quarter-frame and half-frame work. -/
def clockUnits (h q : Bool) (c : Noise) : Noise :=
  let c1 := if q then { c with env := c.env.clock } else c
  if h then { c1 with length := lengthClock c1.env.lengthHalt c1.length } else c1

end Noise

namespace Dmc

/-- R368 to R371: a write to register `n` (0..3). -/
def writeReg (n : Nat) (d : Byte) (c : Dmc) : Dmc :=
  match n with
  | 0 => { c with irqEnable := d.getLsbD 7, loop := d.getLsbD 6, rateIndex := d.extractLsb' 0 4,
                  dmcIrq := c.dmcIrq && d.getLsbD 7 }
  | 1 => { c with level := d.extractLsb' 0 7 }
  | 2 => { c with sampleAddr := BitVec.ofNat 16 (0xC000 + 64 * d.toNat) }
  | 3 => { c with sampleLen := BitVec.ofNat 12 (16 * d.toNat + 1) }
  | _ => c

/-- R388: the output unit's half of a tick: the level follows the shift register's low bit. -/
def shiftOut (c : Dmc) : Dmc :=
  let c1 := if c.silence then c
    else if c.shift.getLsbD 0 then
      { c with level := if c.level.toNat ≤ 125 then c.level + 2 else c.level, shift := c.shift >>> 1 }
    else { c with level := if 2 ≤ c.level.toNat then c.level - 2 else c.level, shift := c.shift >>> 1 }
  { c1 with bitsLeft := c1.bitsLeft - 1 }

end Dmc

/-! ## Samples of the channels that do not touch the bus (R391 to R393, R395) -/

/-- R395: `n` times, record the amplitude and advance. -/
def sampleLoop {γ : Type} (amp : γ → Nat) (adv : γ → γ) : Nat → γ → List Nat × γ
  | 0, c => ([], c)
  | n + 1, c =>
    let rest := sampleLoop amp adv n (adv c)
    (amp c :: rest.1, rest.2)

/-- R391: `PulseOutput`. -/
def pulseOutput (n : Nat) (clocks : Rat) (first h q : Bool) (c : Pulse) : List Nat × Pulse :=
  sampleLoop (Pulse.amplitude first) (Pulse.advance clocks) n (c.clockUnits first h q)

/-- R392: `TriangleOutput`. -/
def triangleOutput (n : Nat) (clocks : Rat) (h q : Bool) (c : Triangle) : List Nat × Triangle :=
  sampleLoop Triangle.amplitude (Triangle.advance clocks) n (c.clockUnits h q)

/-- R393: `NoiseOutput`. -/
def noiseOutput (n : Nat) (clocks : Rat) (h q : Bool) (c : Noise) : List Nat × Noise :=
  sampleLoop Noise.amplitude (Noise.advance clocks) n (c.clockUnits h q)

/-! ## Mixer (R398) -/

/-- The quotient rounded to the nearest integer. -/
def roundDiv (num den : Nat) : Nat := (2 * num + den) / (2 * den)

/-- R398: `PulseTable[i] = round(255 * 95.52 / (8128 / i + 100))`, cleared of fractions; 0 at 0. -/
def pulseTable (i : Nat) : Nat := roundDiv (255 * 9552 * i) (100 * (8128 + 100 * i))

/-- R398: `TndTable[i] = round(255 * 163.67 / (24329 / i + 100))`, cleared of fractions; 0 at 0. -/
def tndTable (i : Nat) : Nat := roundDiv (255 * 16367 * i) (100 * (24329 + 100 * i))

/-- R398: `Mix(p1, p2, t, n, d)`, clamped to 0..255. -/
def mix (p1 p2 t n d : Nat) : Byte :=
  BitVec.ofNat 8 (min 255 (pulseTable (p1 + p2) + tndTable (3 * t + 2 * n + d)))

/-! ## Frame sequencer (R375, R376) -/

/-- R376: the table of the quarter-frame and half-frame clocks, as (q, h). -/
def sequencerClocks (mode : Bool) (index : Nat) : Bool × Bool :=
  if mode then
    match index with
    | 0 => (true, false)
    | 1 => (true, true)
    | 2 => (true, false)
    | 3 => (false, false)
    | 4 => (true, true)
    | _ => (false, false)
  else
    match index with
    | 0 => (true, false)
    | 1 => (true, true)
    | 2 => (true, false)
    | 3 => (true, true)
    | _ => (false, false)

namespace Apu

/-- R373: the status byte. -/
def status (a : Apu) : Byte :=
  let b0 := setBit (0 : Byte) 0 (decide (a.pulse1.length ≠ 0))
  let b1 := setBit b0 1 (decide (a.pulse2.length ≠ 0))
  let b2 := setBit b1 2 (decide (a.triangle.length ≠ 0))
  let b3 := setBit b2 3 (decide (a.noise.length ≠ 0))
  let b4 := setBit b3 4 (decide (a.dmc.bytesLeft ≠ 0))
  setBit (setBit b4 6 a.frameIrq) 7 a.dmc.dmcIrq

/-- R355 to R371: a write to 0x4000 + `n`, `n` in 0..0x13. -/
def writeChannelReg (n : Nat) (d : Byte) (a : Apu) : Apu :=
  if n < 4 then { a with pulse1 := a.pulse1.writeReg n d }
  else if n < 8 then { a with pulse2 := a.pulse2.writeReg (n - 4) d }
  else if n < 12 then { a with triangle := a.triangle.writeReg (n - 8) d }
  else if n < 16 then { a with noise := a.noise.writeReg (n - 12) d }
  else { a with dmc := a.dmc.writeReg (n - 16) d }

/-- R372: the effect of a 0x4015 write on the enables and on the four length counters. -/
def writeEnables (d : Byte) (a : Apu) : Apu :=
  { a with
    pulse1 := { a.pulse1 with enable := d.getLsbD 0, length := if d.getLsbD 0 then a.pulse1.length else 0 }
    pulse2 := { a.pulse2 with enable := d.getLsbD 1, length := if d.getLsbD 1 then a.pulse2.length else 0 }
    triangle := { a.triangle with enable := d.getLsbD 2, length := if d.getLsbD 2 then a.triangle.length else 0 }
    noise := { a.noise with enable := d.getLsbD 3, length := if d.getLsbD 3 then a.noise.length else 0 }
    dmc := { a.dmc with enable := d.getLsbD 4, dmcIrq := false,
                        bytesLeft := if d.getLsbD 4 then a.dmc.bytesLeft else 0 } }

/-- R375: a 0x4017 write. -/
def writeSequencer (d : Byte) (a : Apu) : Apu :=
  { a with seqMode := d.getLsbD 7, frameIrqInhibit := d.getLsbD 6,
           frameIrq := a.frameIrq && !d.getLsbD 6, seqIndex := 0 }

end Apu

/-! ## Controllers (R378) -/

namespace Pads

/-- R378: a 0x4016 write. -/
def writeStrobe (d : Byte) (c : Pads) : Pads :=
  if d.getLsbD 0 then { c with strobe := true, padShift1 := c.buttons1, padShift2 := c.buttons2 }
  else { c with strobe := false }

/-- R378: the serial read of one shift register: the byte read and the register after it. -/
def serial (strobe : Bool) (buttons shift : Byte) : Byte × Byte :=
  let r := if strobe then buttons else shift
  (r &&& 1, if strobe then r else setBit (r >>> 1) 7 true)

def readPad1 (c : Pads) : Byte × Pads :=
  let r := serial c.strobe c.buttons1 c.padShift1
  (r.1, { c with padShift1 := r.2 })

def readPad2 (c : Pads) : Byte × Pads :=
  let r := serial c.strobe c.buttons2 c.padShift2
  (r.1, { c with padShift2 := r.2 })

end Pads

end Sys2Proof.Machine
end

