-- ==== Sys2Proof/Machine/Flags.lean ====
section
/-! DEFINITION. The flag byte (spec/10_state.md rules R23, R24) and every flag computation of files 41, 42 and 44. -/

namespace Sys2Proof.Machine

/-! ## The flags as bits of `P` (R9, R23) -/

def flagC (p : Byte) : Bool := p.getLsbD 0
def flagZ (p : Byte) : Bool := p.getLsbD 1
def flagI (p : Byte) : Bool := p.getLsbD 2
def flagD (p : Byte) : Bool := p.getLsbD 3
def flagV (p : Byte) : Bool := p.getLsbD 6
def flagN (p : Byte) : Bool := p.getLsbD 7

def setC (b : Bool) (s : State) : State := { s with p := setBit s.p 0 b }
def setZ (b : Bool) (s : State) : State := { s with p := setBit s.p 1 b }
def setI (b : Bool) (s : State) : State := { s with p := setBit s.p 2 b }
def setD (b : Bool) (s : State) : State := { s with p := setBit s.p 3 b }
def setV (b : Bool) (s : State) : State := { s with p := setBit s.p 6 b }
def setN (b : Bool) (s : State) : State := { s with p := setBit s.p 7 b }

/-- R13: zero and negative from an 8-bit result. -/
def setNZ (v : Byte) (s : State) : State := setN (v.getLsbD 7) (setZ (decide (v = 0)) s)

/-- R222, R255: the copy of `P` that PHP and the brk service push: bits 5 and 4 set. -/
def statusWithB (p : Byte) : Byte := p ||| 0x30

/-- R255: the copy of `P` that the irq and nmi services push: bit 5 set, B clear. -/
def statusWithoutB (p : Byte) : Byte := (p ||| 0x20) &&& 0xEF

/-- R223, R233: what `P` becomes when `v` is pulled: bit 5 stays 1, bit 4 stays 0. -/
def statusPulled (v : Byte) : Byte := (v &&& 0xCF) ||| 0x20

/-! ## Arithmetic (R160, R161, R165) -/

/-- The carry flag as a number. -/
def carryIn (p : Byte) : Nat := (flagC p).toNat

/-- R160: the exact sum `A + M + C`. -/
def adcSum (a m : Byte) (c : Nat) : Nat := a.toNat + m.toNat + c

/-- R160: add with carry; V is computed with the old A. -/
def adcOp (m : Byte) (s : State) : State :=
  let sum := adcSum s.a m (carryIn s.p)
  let r : Byte := BitVec.ofNat 8 sum
  let s1 := setC (decide (sum > 255)) s
  let s2 := setV (((s.a ^^^ r) &&& (m ^^^ r)).getLsbD 7) s1
  setNZ r { s2 with a := r }

/-- R161: the exact difference `A - M - (1 - C)`. -/
def sbcDiff (a m : Byte) (c : Nat) : Int := (a.toNat : Int) - m.toNat - (1 - c)

/-- R161: subtract with borrow. -/
def sbcOp (m : Byte) (s : State) : State :=
  let diff := sbcDiff s.a m (carryIn s.p)
  let r : Byte := BitVec.ofInt 8 diff
  let s1 := setC (decide (0 ≤ diff)) s
  let s2 := setV (((s.a ^^^ m) &&& (s.a ^^^ r)).getLsbD 7) s1
  setNZ r { s2 with a := r }

/-- R165 to R167: compare register value `r` with `m`; only C, Z, N are written. -/
def compareOp (r m : Byte) (s : State) : State :=
  let d : Int := (r.toNat : Int) - m.toNat
  setNZ (BitVec.ofInt 8 d) (setC (decide (0 ≤ d)) s)

/-- R168: Z from `A and M`, N and V from bits 7 and 6 of M. -/
def bitOp (m : Byte) (s : State) : State :=
  setV (m.getLsbD 6) (setN (m.getLsbD 7) (setZ (decide (s.a &&& m = 0)) s))

/-! ## Loads and logic (R140 to R142, R162 to R164) -/

def ldaOp (m : Byte) (s : State) : State := setNZ m { s with a := m }
def ldxOp (m : Byte) (s : State) : State := setNZ m { s with x := m }
def ldyOp (m : Byte) (s : State) : State := setNZ m { s with y := m }
def andOp (m : Byte) (s : State) : State := ldaOp (s.a &&& m) s
def oraOp (m : Byte) (s : State) : State := ldaOp (s.a ||| m) s
def eorOp (m : Byte) (s : State) : State := ldaOp (s.a ^^^ m) s

/-! ## Read-modify-write results (R169, R170, R190 to R193): the result and the state after the write of C -/

def incOp (m : Byte) (s : State) : Byte × State := (m + 1, s)
def decOp (m : Byte) (s : State) : Byte × State := (m - 1, s)
def aslOp (m : Byte) (s : State) : Byte × State := (m <<< 1, setC (m.getLsbD 7) s)
def lsrOp (m : Byte) (s : State) : Byte × State := (m >>> 1, setC (m.getLsbD 0) s)
/-- The old C is used to build the result before C is overwritten. -/
def rolOp (m : Byte) (s : State) : Byte × State :=
  (setBit (m <<< 1) 0 (flagC s.p), setC (m.getLsbD 7) s)
def rorOp (m : Byte) (s : State) : Byte × State :=
  (setBit (m >>> 1) 7 (flagC s.p), setC (m.getLsbD 0) s)

end Sys2Proof.Machine
end

