-- ==== Sys2Proof/Machine/Memory.lean ====
section
/-! DEFINITION. Reading and writing sparse memories, and their canonical form. `z` is what an unlisted key reads as. -/

namespace Sys2Proof.Machine

variable {α : Type} [DecidableEq α]

namespace Sparse

/-- The entry at key `a`. -/
def read (z : α) : Sparse α → Nat → α
  | [], _ => z
  | c :: m, a => if c.1 = a then c.2 else read z m a

/-- Drop the entry at key `a`. -/
def erase (m : Sparse α) (a : Nat) : Sparse α := m.filter (fun c => decide (c.1 ≠ a))

/-- Put an entry in its place in a rising list that has no entry at `a`. -/
def insert (a : Nat) (v : α) : Sparse α → Sparse α
  | [] => [(a, v)]
  | c :: m => if a < c.1 then (a, v) :: c :: m else c :: insert a v m

/-- Store `v` at key `a`. Storing the default removes the entry. -/
def write (z : α) (m : Sparse α) (a : Nat) (v : α) : Sparse α :=
  if v = z then erase m a else insert a v (erase m a)

/-- Keys strictly rising. -/
def rising : Sparse α → Bool
  | [] => true
  | [_] => true
  | c :: d :: m => decide (c.1 < d.1) && rising (d :: m)

/-- The canonical form of an array of `size` entries: keys strictly rising and below `size`, no entry equal to the default. -/
def wf (z : α) (size : Nat) (m : Sparse α) : Bool :=
  rising m && m.all (fun c => decide (c.1 < size) && decide (c.2 ≠ z))

/-- The canonical memory whose entries are the given values at keys `a`, `a + 1`, ... -/
def ofList (z : α) : Nat → List α → Sparse α
  | _, [] => []
  | a, v :: vs => if v = z then ofList z (a + 1) vs else (a, v) :: ofList z (a + 1) vs

end Sparse

namespace Memory

/-- One byte of a byte memory. -/
def read (m : Memory) (a : Nat) : Byte := Sparse.read 0 m a

/-- Store one byte. -/
def write (m : Memory) (a : Nat) (v : Byte) : Memory := Sparse.write 0 m a v

/-- The canonical form of a byte memory of `size` bytes. -/
def wf (size : Nat) (m : Memory) : Bool := Sparse.wf 0 size m

end Memory

end Sys2Proof.Machine
end

