-- ==== Sys2Proof/Machine/Ppu.lean ====
section
/-! DEFINITION. The picture processor (spec/61_ppu.md): its address space, ports, and per-line steps. `PreRender` of
line 241 also requests nmi, so its whole is in Machine/Orchestrator.lean. PPU addresses are plain numbers, reduced modulo 0x4000. -/

namespace Sys2Proof.Machine

namespace Ppu

/-! ## Address space (R291 to R299) -/

/-- R293: the buffer of logical nametable `l`. -/
def ntBuffer : Mirroring → Nat → Nat
  | .vertical, l => l % 2
  | .horizontal, l => l / 2
  | .singleLow, _ => 0
  | .singleHigh, _ => 1
  | .fourScreen, l => l

/-- R293: where the byte of a nametable address 0x2000..0x2FFF lies in `nt`. -/
def ntIndex (m : Mirroring) (a : Nat) : Nat := 1024 * ntBuffer m (a / 1024 % 4) + a % 1024

/-- R294: the palette entry of a palette address. -/
def paletteIndex (a : Nat) : Nat :=
  let i := a % 32
  if i / 16 = 1 ∧ i % 4 = 0 then i - 16 else i

/-- A byte of pattern memory. -/
def patternByte (p : Ppu) (a : Nat) : Byte := Memory.read p.pattern a

/-- A palette entry. -/
def paletteEntry (p : Ppu) (i : Nat) : BitVec 6 := Sparse.read 0 p.palette i

/-- A byte of sprite memory. -/
def oamByte (p : Ppu) (i : Nat) : Byte := Memory.read p.oam i

/-- R297: `PpuRead(a)`. -/
def read (p : Ppu) (addr : Nat) : Byte :=
  let a := addr % 0x4000
  if a < 0x2000 then p.patternByte a
  else if a < 0x3000 then Memory.read p.nt (ntIndex p.mirroring a)
  else if a < 0x3F00 then Memory.read p.nt (ntIndex p.mirroring (a - 0x1000))
  else (p.paletteEntry (paletteIndex a)).setWidth 8

/-- R297: `PpuWrite(a, d)`, which always stores. -/
def write (addr : Nat) (d : Byte) (p : Ppu) : Ppu :=
  let a := addr % 0x4000
  if a < 0x2000 then { p with pattern := Memory.write p.pattern a d }
  else if a < 0x3000 then { p with nt := Memory.write p.nt (ntIndex p.mirroring a) d }
  else if a < 0x3F00 then { p with nt := Memory.write p.nt (ntIndex p.mirroring (a - 0x1000)) d }
  else { p with palette := Sparse.write 0 p.palette (paletteIndex a) (d.setWidth 6) }

/-- R297: `PpuWriteCpu(a, d)`: a write below 0x2000 is ignored when the cartridge has CHR ROM. -/
def writeCpu (chrRom : Bool) (addr : Nat) (d : Byte) (p : Ppu) : Ppu :=
  if chrRom && decide (addr % 0x4000 < 0x2000) then p else p.write addr d

/-- R299: block read of `n` bytes. -/
def readBlock (p : Ppu) (a n : Nat) : List Byte := (List.range n).map (fun i => p.read (a + i))

/-- R299: block write of `n` bytes in ascending order, byte `i` being `f i`. -/
def writeBlock (a n : Nat) (f : Nat → Byte) (p : Ppu) : Ppu :=
  (List.range n).foldl (fun q i => q.write (a + i) (f i)) p

/-- R298: `SetMirroring(m)`; `none` stands for a value that is not one of the five modes. -/
def setMirroring (m : Option Mirroring) (p : Ppu) : Ppu :=
  match m with
  | some m => { p with mirroring := m }
  | none => p

/-! ## Fields of the registers (R296, R300, R301) -/

def coarseX (v : BitVec 15) : BitVec 5 := v.extractLsb' 0 5
def coarseY (v : BitVec 15) : BitVec 5 := v.extractLsb' 5 5
def fineY (v : BitVec 15) : BitVec 3 := v.extractLsb' 12 3
/-- `v[13:0]` -/
def ppuAddr (v : BitVec 15) : Nat := v.toNat % 0x4000

def bgOn (p : Ppu) : Bool := p.ppuMask.getLsbD 3
def spOn (p : Ppu) : Bool := p.ppuMask.getLsbD 4
def renderingOn (p : Ppu) : Bool := p.bgOn || p.spOn
/-- R307: the data port's increment. -/
def increment (p : Ppu) : BitVec 15 := if p.ppuCtrl.getLsbD 2 then 32 else 1

/-! ## Ports (R300 to R309) -/

/-- R302: the status byte. -/
def status (p : Ppu) : Byte :=
  setBit (setBit (setBit (0 : Byte) 7 p.vblank) 6 p.sprite0Hit) 5 p.spriteOverflow

/-- R307: data read. -/
def readData (p : Ppu) : Byte × Ppu :=
  let a := ppuAddr p.v
  if a < 0x3F00 then
    (p.ppuReadBuf, { p with ppuReadBuf := p.read a, v := p.v + p.increment })
  else
    (p.read a, { p with ppuReadBuf := p.read (a - 0x1000), v := p.v + p.increment })

/-- R302, R304, R307, R309: a read of port `n`. -/
def readPort (n : Nat) (p : Ppu) : Byte × Ppu :=
  if n = 2 then (p.status, { p with vblank := false, w := false })
  else if n = 4 then (p.oamByte p.oamAddr.toNat, p)
  else if n = 7 then p.readData
  else (0, p)

/-- R300. -/
def writeControl (d : Byte) (p : Ppu) : Ppu :=
  { p with ppuCtrl := d, t := setField p.t 10 (d.extractLsb' 0 2) }

/-- R305. -/
def writeScroll (d : Byte) (p : Ppu) : Ppu :=
  if p.w then
    { p with t := setField (setField p.t 12 (d.extractLsb' 0 3)) 5 (d.extractLsb' 3 5), w := false }
  else
    { p with t := setField p.t 0 (d.extractLsb' 3 5), x := d.extractLsb' 0 3, w := true }

/-- R306. -/
def writeAddress (d : Byte) (p : Ppu) : Ppu :=
  if p.w then
    let t' := setField p.t 0 d
    { p with t := t', v := t', w := false }
  else
    { p with t := setBit (setField p.t 8 (d.extractLsb' 0 6)) 14 false, w := true }

/-- R304: store into OAM and step `oamAddr`. -/
def writeOamData (d : Byte) (p : Ppu) : Ppu :=
  { p with oam := Memory.write p.oam p.oamAddr.toNat d, oamAddr := p.oamAddr + 1 }

/-- R308. -/
def writeData (chrRom : Bool) (d : Byte) (p : Ppu) : Ppu :=
  { p.writeCpu chrRom (ppuAddr p.v) d with v := p.v + p.increment }

/-- R300 to R308: a write to port `n`. A write to port 2 is ignored. -/
def writePort (chrRom : Bool) (n : Nat) (d : Byte) (p : Ppu) : Ppu :=
  match n with
  | 0 => p.writeControl d
  | 1 => { p with ppuMask := d }
  | 3 => { p with oamAddr := d }
  | 4 => p.writeOamData d
  | 5 => p.writeScroll d
  | 6 => p.writeAddress d
  | 7 => p.writeData chrRom d
  | _ => p

/-! ## The wrap rules of v (R317) -/

def incCoarseX (v : BitVec 15) : BitVec 15 :=
  if coarseX v = 31 then setBit (setField v 0 (0 : BitVec 5)) 10 (!v.getLsbD 10)
  else setField v 0 (coarseX v + 1)

def incFineY (v : BitVec 15) : BitVec 15 :=
  if fineY v ≠ 7 then setField v 12 (fineY v + 1)
  else
    let v0 := setField v 12 (0 : BitVec 3)
    if coarseY v = 29 then setBit (setField v0 5 (0 : BitVec 5)) 11 (!v.getLsbD 11)
    else if coarseY v = 31 then setField v0 5 (0 : BitVec 5)
    else setField v0 5 (coarseY v + 1)

/-! ## Rendering a line (R315 to R325) -/

/-- R292: the 2-bit pixel at bit `b` of the pattern row whose plane-0 byte is at `base`. -/
def patternPixel (p : Ppu) (base b : Nat) : BitVec 2 :=
  BitVec.ofBool ((p.patternByte (base + 8)).getLsbD b) ++ BitVec.ofBool ((p.patternByte base).getLsbD b)

/-- R316: address of the attribute byte. -/
def attributeAddr (v : BitVec 15) : Nat :=
  0x23C0 + 1024 * (v.extractLsb' 10 2).toNat + 8 * (v.extractLsb' 7 3).toNat + (v.extractLsb' 2 3).toNat

/-- R316: bit position of the tile's field in the attribute byte. -/
def attributeShift (v : BitVec 15) : Nat := 4 * (v.getLsbD 6).toNat + 2 * (v.getLsbD 1).toNat

/-- R316: address of the tile number. -/
def tileAddr (v : BitVec 15) : Nat := 0x2000 + (v.extractLsb' 0 12).toNat

/-- R316: `Background(v, fx, c)`, the pixel and the palette of a background column. -/
def background (p : Ppu) (fx : BitVec 3) (c : Nat) : BitVec 2 × BitVec 2 :=
  if !p.bgOn || (decide (c < 8) && !p.ppuMask.getLsbD 1) then (0, 0)
  else
    let tile := (p.read (tileAddr p.v)).toNat
    let base := 4096 * (p.ppuCtrl.getLsbD 4).toNat + 16 * tile + (fineY p.v).toNat
    let at_ := p.read (attributeAddr p.v)
    (p.patternPixel base (7 - fx.toNat), at_.extractLsb' (attributeShift p.v) 2)

/-- R322: `Emit(n, c, entry)`. -/
def emit (skip : Bool) (n c : Nat) (entry : BitVec 6) (p : Ppu) : Ppu :=
  if 8 ≤ n ∧ n ≤ 231 ∧ skip = false then
    { p with frame := Sparse.write 0 p.frame (256 * (n - 8) + c) (Config.colour entry p.ppuMask) }
  else p

/-- R320: the sprite pixel that shows at column `c`, if any. -/
def visibleSprite (p : Ppu) (c : Nat) : Option SpritePixel :=
  if p.spOn && (decide (8 ≤ c) || p.ppuMask.getLsbD 2) then Sparse.read none p.spriteLine c else none

/-- R320: the palette entry that a column shows. -/
def compositeEntry (p : Ppu) (s : Option SpritePixel) (bgPix bgPal : BitVec 2) : BitVec 6 :=
  match s with
  | some sp =>
    if sp.behind = false ∨ bgPix = 0 then p.paletteEntry (16 + sp.index.toNat)
    else p.paletteEntry (4 * bgPal.toNat + bgPix.toNat)
  | none => if bgPix ≠ 0 then p.paletteEntry (4 * bgPal.toNat + bgPix.toNat) else p.paletteEntry 0

/-- R320: does an opaque sprite-0 pixel meet an opaque background pixel? -/
def hitsSprite0 (s : Option SpritePixel) (bgPix : BitVec 2) : Bool :=
  match s with
  | some sp => sp.isSprite0 && decide (bgPix ≠ 0)
  | none => false

/-- R320: `Composite(n, c, bgPix, bgPal)`. -/
def composite (skip : Bool) (n c : Nat) (bgPix bgPal : BitVec 2) (p : Ppu) : Ppu :=
  let s := p.visibleSprite c
  emit skip n c (p.compositeEntry s bgPix bgPal)
    { p with sprite0Hit := p.sprite0Hit || hitsSprite0 s bgPix }

/-- R315: one column of a rendered line; the pair carries the fine X position. -/
def renderColumn (skip : Bool) (n : Nat) (q : Ppu × BitVec 3) (c : Nat) : Ppu × BitVec 3 :=
  let bg := q.1.background q.2 c
  let p1 := q.1.composite skip n c bg.1 bg.2
  if q.2 = 7 then ({ p1 with v := incCoarseX p1.v }, 0) else (p1, q.2 + 1)

/-! ### Sprite evaluation (R325) -/

/-- R300 bit 5: sprite height. -/
def spriteHeight (p : Ppu) : Nat := if p.ppuCtrl.getLsbD 5 then 16 else 8

/-- R325: does sprite `i` cover line `n + 1`? -/
def spriteCovers (p : Ppu) (n i : Nat) : Bool :=
  decide ((p.oamByte (4 * i)).toNat ≤ n ∧ n - (p.oamByte (4 * i)).toNat < p.spriteHeight)

/-- R325: the pattern address of sprite `i`'s row for line `n + 1`, vertical flip applied. -/
def spriteRowBase (p : Ppu) (n i : Nat) : Nat :=
  let r0 := n - (p.oamByte (4 * i)).toNat
  let tile := p.oamByte (4 * i + 1)
  let h := p.spriteHeight
  let r := if (p.oamByte (4 * i + 2)).getLsbD 7 then h - 1 - r0 else r0
  if h = 8 then 4096 * (p.ppuCtrl.getLsbD 3).toNat + 16 * tile.toNat + r
  else 4096 * (tile.getLsbD 0).toNat + 16 * ((tile.extractLsb' 1 7).toNat * 2 + r / 8) + r % 8

/-- R325: pixel `k` of sprite `i` put into its column if it is opaque and the column is still empty. -/
def drawSpritePixel (n i : Nat) (p : Ppu) (k : Nat) : Ppu :=
  let attr := p.oamByte (4 * i + 2)
  let pix := p.patternPixel (p.spriteRowBase n i) (if attr.getLsbD 6 then k else 7 - k)
  let c := (p.oamByte (4 * i + 3)).toNat + k
  if pix ≠ 0 ∧ c ≤ 255 ∧ Sparse.read none p.spriteLine c = none then
    { p with spriteLine := Sparse.write none p.spriteLine c
              (some { index := attr.extractLsb' 0 2 ++ pix, behind := attr.getLsbD 5, isSprite0 := decide (i = 0) }) }
  else p

/-- R325: the eight pixels of one selected sprite. -/
def drawSprite (n i : Nat) (p : Ppu) : Ppu := (List.range 8).foldl (drawSpritePixel n i) p

/-- R325: the loop over the sprites still to scan, `count` selected so far; a ninth sets the overflow flag and stops. -/
def scanSprites (n : Nat) : List Nat → Nat → Ppu → Ppu
  | [], _, p => p
  | i :: is, count, p =>
    if p.spriteCovers n i then
      if count = 8 then { p with spriteOverflow := true }
      else scanSprites n is (count + 1) (p.drawSprite n i)
    else scanSprites n is count p

/-- R325: `EvaluateSprites(n)`. -/
def evaluateSprites (n : Nat) (p : Ppu) : Ppu :=
  scanSprites n (List.range 64) 0 { p with spriteLine := [] }

/-- R315: `RenderLine(n)`; `skip` tells whether the request is a skip-frame (R322). -/
def renderLine (skip : Bool) (n : Nat) (p : Ppu) : Ppu :=
  if 240 ≤ n then p
  else if p.renderingOn = false then
    (List.range 256).foldl (fun q c => q.emit skip n c (q.paletteEntry 0)) p
  else
    let q := ((List.range 256).foldl (renderColumn skip n) (p, p.x)).1
    evaluateSprites n { q with v := incFineY q.v }

/-! ## Pre-render (R311), without the nmi request -/

/-- R311: the scroll reload at the top of a line. -/
def reloadScroll (n : Nat) (p : Ppu) : Ppu :=
  if p.renderingOn = false then p
  else if n = 0 then { p with v := p.t }
  else if n ≤ 239 then { p with v := setBit (setField p.v 0 (coarseX p.t)) 10 (p.t.getLsbD 10) }
  else p

/-- R311: the flags and the sprite line buffer at the top of a line. -/
def preRenderFlags (n : Nat) (p : Ppu) : Ppu :=
  if n = 0 then { p with spriteLine := [] }
  else if n = 241 then { p with vblank := true }
  else if n = 261 then { p with vblank := false, sprite0Hit := false, spriteOverflow := false }
  else p

/-- R311: what `PreRender(n)` does inside the PPU. -/
def preRender (n : Nat) (p : Ppu) : Ppu := preRenderFlags n (reloadScroll n p)

end Ppu

end Sys2Proof.Machine
end

