-- ==== Sys2Proof/Machine/Mapper.lean ====
section
/-! DEFINITION. The bus range table and the cartridge mappers (spec/20_memory.md rules R71, R73, R85;
spec/63_bus_mapper.md). A mapper acts on `busMap`, `ppu.pattern` and `ppu.mirroring` (R436). -/

namespace Sys2Proof.Machine

/-! ## Bus ranges -/

namespace BusMap

/-- R71: does the range hold the address? -/
def holds (r : BusRange) (a : Nat) : Bool := decide (r.lo ≤ a) && decide (a ≤ r.hi)

/-- R71: the device that owns an address and the device-local offset. An address in no range, which a partition does not
have, goes to the open device. -/
def lookup : List BusRange → Nat → Device × Nat
  | [], _ => (.openDev, 0)
  | r :: m, a => if holds r a then (r.dev, a - r.org) else lookup m a

/-- R85: what is left of a range below `s`. -/
def below (s : Nat) (r : BusRange) : List BusRange :=
  if r.lo < s then [{ r with hi := min r.hi (s - 1) }] else []

/-- R85: what is left of a range above `e`; its origin stays, so its addresses keep their offsets. -/
def above (e : Nat) (r : BusRange) : List BusRange :=
  if e < r.hi then [{ r with lo := max r.lo (e + 1) }] else []

/-- R85: `mapRange(dev, s, e)`: insert the range, trimming or splitting its neighbours. -/
def mapRange (dev : Device) (s e : Nat) (m : List BusRange) : List BusRange :=
  m.flatMap (below s) ++ { lo := s, hi := e, org := s, dev := dev } :: m.flatMap (above e)

/-- R73, R435: the map at cartridge load, before the mapper's `init`: the fixed windows, and the open device (R77) at
0x8000 to 0xFFFF until the mapper installs its ranges. -/
def fixedWindows (battery : Bool) : List BusRange :=
  [{ lo := 0x0000, hi := 0x1FFF, org := 0x0000, dev := .wram },
   { lo := 0x2000, hi := 0x3FFF, org := 0x2000, dev := .ppuPorts },
   { lo := 0x4000, hi := 0x401F, org := 0x4000, dev := .apuIo },
   { lo := 0x4020, hi := 0x5FFF, org := 0x4020, dev := .openDev },
   { lo := 0x6000, hi := 0x7FFF, org := 0x6000, dev := if battery then .saveRam else .openDev },
   { lo := 0x8000, hi := 0xFFFF, org := 0x8000, dev := .openDev }]

/-- R28: ranges in order, covering the addresses from `a` to 65535 with no gap and no overlap. -/
def coversFrom (a : Nat) : List BusRange → Bool
  | [] => decide (a = 0x10000)
  | r :: m => decide (r.lo = a) && decide (r.lo ≤ r.hi) && coversFrom (r.hi + 1) m

/-- R28: the table is a partition of the address space. -/
def partition (m : List BusRange) : Bool := coversFrom 0 m

end BusMap

/-- R415: PRG bank `k` as a device. -/
def prgBank (k : Nat) : Device := .prg (16384 * k)

/-- R415, R423: put PRG bank `lo` at 0x8000 and PRG bank `hi` at 0xC000. -/
def mapPrg (lo hi : Nat) (s : State) : State :=
  { s with busMap := BusMap.mapRange (prgBank hi) 0xC000 0xFFFF (BusMap.mapRange (prgBank lo) 0x8000 0xBFFF s.busMap) }

/-- Copy `n` CHR bytes from CHR byte `base` to PPU address `a` (R416, R424, R299). -/
def pushChr (a base n : Nat) (s : State) : State :=
  { s with ppu := s.ppu.writeBlock a n (fun i => Memory.read s.cart.chr (base + i)) }

/-- R298, for the mapper. -/
def setMirroring (m : Mirroring) (s : State) : State := { s with ppu := s.ppu.setMirroring (some m) }

/-! ## Mapper 0 (R415, R416, R420) -/

/-- R420: `init` of mapper 0. -/
def nromInit (s : State) : State :=
  let s1 := mapPrg 0 (s.cart.prgBanks - 1) s
  let s2 := if 1 ≤ s.cart.chrBanks then pushChr 0 0 8192 s1 else s1
  setMirroring s.cart.defaultMirroring s2

/-! ## Mapper 1 (R421 to R426) -/

/-- R422: fields of `mmcControl`. -/
def mmcMirrorField (s : State) : BitVec 2 := s.mapper.mmcControl.extractLsb' 0 2
def mmcPrgMode (s : State) : BitVec 2 := s.mapper.mmcControl.extractLsb' 2 2
def mmcChrMode (s : State) : Bool := s.mapper.mmcControl.getLsbD 4

/-- R426: the mirroring table. -/
def mmcMirroring (f : BitVec 2) : Mirroring :=
  match f.toNat with
  | 0 => .singleLow
  | 1 => .singleHigh
  | 2 => .vertical
  | _ => .horizontal

/-- R426: `ApplyMirroring()`. -/
def applyMirroring (s : State) : State :=
  if s.cart.defaultMirroring = .fourScreen then s else setMirroring (mmcMirroring (mmcMirrorField s)) s

/-- R423: the bank numbers at 0x8000 and 0xC000. -/
def mmcPrgBanks (s : State) : Nat × Nat :=
  let b := s.cart.prgBanks
  let p := (s.mapper.mmcPrg.extractLsb' 0 4).toNat
  let even := p / 2 * 2
  match (mmcPrgMode s).toNat with
  | 2 => (0, p % b)
  | 3 => (p % b, b - 1)
  | _ => (even % b, (even + 1) % b)

/-- R423: `ApplyPrg()`. -/
def applyPrg (s : State) : State := mapPrg (mmcPrgBanks s).1 (mmcPrgBanks s).2 s

/-- R424: the CHR units at PPU 0x0000 and 0x1000. -/
def mmcChrUnits (s : State) : Nat × Nat :=
  let u := 2 * s.cart.chrBanks
  if mmcChrMode s then (s.mapper.mmcChr0.toNat % u, s.mapper.mmcChr1.toNat % u)
  else
    let u0 := (s.mapper.mmcChr0.toNat / 2 * 2) % u
    (u0, (u0 + 1) % u)

/-- R424: `ApplyChr()`. -/
def applyChr (s : State) : State :=
  if s.cart.chrBanks = 0 then s
  else pushChr 0x1000 (4096 * (mmcChrUnits s).2) 4096 (pushChr 0 (4096 * (mmcChrUnits s).1) 4096 s)

/-- R421: the register that the fifth write loads, chosen by address bits 14 and 13. -/
def mmcLoad (addr : Addr) (val : BitVec 5) (s : State) : State :=
  match (addr.extractLsb' 13 2).toNat with
  | 0 => applyChr (applyPrg (applyMirroring { s with mapper := { s.mapper with mmcControl := val } }))
  | 1 => applyChr { s with mapper := { s.mapper with mmcChr0 := val } }
  | 2 => applyChr { s with mapper := { s.mapper with mmcChr1 := val } }
  | _ => applyPrg { s with mapper := { s.mapper with mmcPrg := val } }

/-- R421: the serial write. -/
def mmcWrite (addr : Addr) (d : Byte) (s : State) : State :=
  if d.getLsbD 7 then
    applyPrg { s with mapper := { s.mapper with mmcShift := 0, mmcCount := 0,
                                                mmcControl := s.mapper.mmcControl ||| 0x0C } }
  else
    let val := s.mapper.mmcShift + ((d.extractLsb' 0 1).setWidth 5 <<< s.mapper.mmcCount)
    let count := s.mapper.mmcCount + 1
    if count = 5 then mmcLoad addr val { s with mapper := { s.mapper with mmcShift := 0, mmcCount := 0 } }
    else { s with mapper := { s.mapper with mmcShift := val, mmcCount := count } }

/-- R425: the initial mirroring field. -/
def mmcInitField : Mirroring → BitVec 5
  | .vertical => 2
  | .horizontal => 3
  | _ => 0

/-- R425: `init` of mapper 1. -/
def mmcInit (s : State) : State :=
  let s1 : State := { s with mapper := { mmcShift := 0, mmcCount := 0, mmcChr0 := 0, mmcChr1 := 0, mmcPrg := 0,
                                         mmcControl := 0x0C + mmcInitField s.cart.defaultMirroring } }
  applyChr (applyPrg (setMirroring s.cart.defaultMirroring s1))

/-! ## The mapper contract (R414, R431, R436) -/

/-- R431: the hook `init(bus, powerOrReset, param)`; both admitted mappers ignore its last two arguments. -/
def mapperInit (_kind : InitKind) (_param : Option (List Byte)) (s : State) : State :=
  if s.cart.mapperId = 1 then mmcInit s else nromInit s

/-- R436: `write(bus, addr, val)`. Mapper 0 does nothing (R420). -/
def mapperWrite (addr : Addr) (d : Byte) (s : State) : State :=
  if s.cart.mapperId = 1 then mmcWrite addr d s else s

/-- R431: the hooks `vBlank`, `preScanLine` and `hBlank`, absent for both admitted mappers. -/
def hookVBlank (s : State) : State := s
def hookPreScanLine (_line : Nat) (s : State) : State := s
def hookHBlank (_line : Nat) (s : State) : State := s

end Sys2Proof.Machine
end

