-- ==== Sys2Proof/Machine/Ops.lean ====
section
/-! DEFINITION. The named operations over memory and registers: interrupt requests, cycle accounting, the CPU bus, the stack,
fetching, taking an interrupt and returning from one (spec/00_scope.md rules R10 to R16, spec/20_memory.md, spec/60_exceptions.md). -/

namespace Sys2Proof.Machine

/-! ## Requests and cycles -/

/-- R252: the priority order none < irq < brk < nmi < reset. -/
def tagRank : Tag → Nat
  | .none => 0
  | .irq => 1
  | .brk => 2
  | .nmi => 3
  | .reset => 4

/-- R252: `MergePending(cur, k)`. -/
def mergePending (cur k : Tag) : Tag := if tagRank cur < tagRank k then k else cur

/-- R15: `Request(k)`. -/
def request (k : Tag) (s : State) : State := { s with pending := mergePending s.pending k }

/-- R16: `AddCycles(n)`. -/
def addCycles (n : Nat) (s : State) : State := { s with cyc := s.cyc + n }

/-- R18: `Log(msg)`. -/
def logMsg (m : LogMsg) (s : State) : State := { s with io := { s.io with log := s.io.log ++ [m] } }

/-! ## Bus reads (R10, R71 to R79) -/

/-- R76: a read in the APU and I/O window, `n` being the address less 0x4000. -/
def apuRead (n : Nat) (s : State) : Byte × State :=
  if n = 0x15 then (s.apu.status, { s with apu := { s.apu with frameIrq := false } })
  else if n = 0x16 then (s.pads.readPad1.1, { s with pads := s.pads.readPad1.2 })
  else if n = 0x17 then (s.pads.readPad2.1, { s with pads := s.pads.readPad2.2 })
  else (0, s)

/-- R71, R72: what a read of device `dev` at local offset `n` answers, and the device's side effect. -/
def deviceRead (dev : Device) (n : Nat) (s : State) : Byte × State :=
  match dev with
  | .wram => (Memory.read s.wram (n % 2048), s)
  | .ppuPorts => ((s.ppu.readPort (n % 8)).1, { s with ppu := (s.ppu.readPort (n % 8)).2 })
  | .apuIo => apuRead n s
  | .openDev => (0, s)
  | .saveRam => (Memory.read s.saveRam (n % 8192), s)
  | .prg base => (Memory.read s.cart.prg (base + n), s)

/-- R10: `MemRead(addr, 1)`. -/
def memRead (addr : Addr) (s : State) : Byte × State :=
  let r := BusMap.lookup s.busMap addr.toNat
  deviceRead r.1 r.2 s

/-- The byte that a read at `addr` would answer, with no side effect. -/
def peek (s : State) (addr : Addr) : Byte := (memRead addr s).1

/-- R10: `MemRead(addr, 2)`, low byte first. -/
def memRead16 (addr : Addr) (s : State) : Addr × State :=
  let lo := memRead addr s
  let hi := memRead (addr + 1) lo.2
  (word hi.1 lo.1, hi.2)

/-- R14: `ZpRead16(z)`, the second byte's address wrapping in the zero page. -/
def zpRead16 (z : Byte) (s : State) : Addr × State :=
  let lo := memRead (zpAddr z) s
  let hi := memRead (zpAddr (z + 1)) lo.2
  (word hi.1 lo.1, hi.2)

/-! ## The DMC's sample reader (R386) and the sprite DMA (R380), the two other bus masters -/

/-- R386: the bookkeeping after byte `b` has been read, and whether the interrupt of R387 is raised. -/
def dmcTake (b : Byte) (c : Dmc) : Dmc × Bool :=
  let c1 := { c with buffer := b, bufferFull := true,
                     curAddr := if c.curAddr = 0xFFFF then 0x8000 else c.curAddr + 1,
                     bytesLeft := c.bytesLeft - 1 }
  if c1.bytesLeft = 0 then
    if c.loop then ({ c1 with curAddr := c.sampleAddr, bytesLeft := c.sampleLen }, false)
    else if c.irqEnable then ({ c1 with dmcIrq := true }, true)
    else (c1, false)
  else (c1, false)

/-- R386: `DmcRefill()`. -/
def dmcRefill (s : State) : State :=
  if s.apu.dmc.bufferFull = false ∧ s.apu.dmc.bytesLeft ≠ 0 then
    let r := memRead s.apu.dmc.curAddr s
    let d := dmcTake r.1 r.2.apu.dmc
    let s1 := { r.2 with apu := { r.2.apu with dmc := d.1 } }
    if d.2 then request .irq s1 else s1
  else s

/-- R372: when the DMC is enabled with nothing left to play, start its sample. -/
def dmcStart (d : Byte) (s : State) : State :=
  if d.getLsbD 4 = true ∧ s.apu.dmc.bytesLeft = 0 then
    dmcRefill { s with apu := { s.apu with dmc := { s.apu.dmc with curAddr := s.apu.dmc.sampleAddr,
                                                                    bytesLeft := s.apu.dmc.sampleLen } } }
  else s

/-- R380: byte `i` of the sprite DMA from page `d`; `base` is `oamAddr`. -/
def oamDmaByte (d base : Byte) (s : State) (i : Nat) : State :=
  let r := memRead (BitVec.ofNat 16 (256 * d.toNat + i)) s
  { r.2 with ppu := { r.2.ppu with oam := Memory.write r.2.ppu.oam ((base.toNat + i) % 256) r.1 } }

/-- R380: the sprite DMA. -/
def oamDma (d : Byte) (s : State) : State :=
  addCycles Config.oamDmaCycles ((List.range 256).foldl (oamDmaByte d s.ppu.oamAddr) s)

/-! ## Bus writes (R10, R71 to R79) -/

/-- R76: a write in the APU and I/O window, `n` being the address less 0x4000. -/
def apuWrite (n : Nat) (d : Byte) (s : State) : State :=
  if n < 0x14 then { s with apu := s.apu.writeChannelReg n d }
  else if n = 0x14 then oamDma d s
  else if n = 0x15 then dmcStart d { s with apu := s.apu.writeEnables d }
  else if n = 0x16 then { s with pads := s.pads.writeStrobe d }
  else if n = 0x17 then { s with apu := s.apu.writeSequencer d }
  else s

/-- R71: a write of `d` to device `dev` at local offset `n`; the mapper is given the full address (R79). -/
def deviceWrite (dev : Device) (n : Nat) (addr : Addr) (d : Byte) (s : State) : State :=
  match dev with
  | .wram => { s with wram := Memory.write s.wram (n % 2048) d }
  | .ppuPorts => { s with ppu := s.ppu.writePort (decide (0 < s.cart.chrBanks)) (n % 8) d }
  | .apuIo => apuWrite n d s
  | .openDev => s
  | .saveRam => { s with saveRam := Memory.write s.saveRam (n % 8192) d, saveDirty := s.saveDirty + 1 }
  | .prg _ => mapperWrite addr d s

/-- R10: `MemWrite(addr, 1, d)`. -/
def memWrite (addr : Addr) (d : Byte) (s : State) : State :=
  let r := BusMap.lookup s.busMap addr.toNat
  deviceWrite r.1 r.2 addr d s

/-! ## The stack (R12) -/

/-- The address of the stack byte at `sp`. -/
def stackAddr (sp : Byte) : Addr := word 0x01 sp

/-- R12: `Push(v)`. -/
def push (v : Byte) (s : State) : State :=
  let s1 := memWrite (stackAddr s.sp) v s
  { s1 with sp := s1.sp - 1 }

/-- R12: `Pull()`. -/
def pull (s : State) : Byte × State :=
  let s1 := { s with sp := s.sp + 1 }
  memRead (stackAddr s1.sp) s1

/-- R201, R255: a 16-bit value pushed high byte first. -/
def push16 (v : Addr) (s : State) : State := push (loByte v) (push (hiByte v) s)

/-- R202, R233: a 16-bit value pulled low byte first. -/
def pull16 (s : State) : Addr × State :=
  let lo := pull s
  let hi := pull lo.2
  (word hi.1 lo.1, hi.2)

/-! ## Fetching (R11) -/

/-- R11: `Fetch8()`. -/
def fetch8 (s : State) : Byte × State :=
  let r := memRead s.pc s
  (r.1, { r.2 with pc := r.2.pc + 1 })

/-! ## Reset of the CPU (R480) -/

/-- R480: the registers' reset values. -/
def resetRegisters (s : State) : State :=
  { s with a := Config.resetA, x := Config.resetX, y := Config.resetY, sp := 0xFF, p := 0x24, pending := .none, cyc := 0 }

/-- R480: `DoReset()`. -/
def doReset (s : State) : State :=
  let r := memRead16 0xFFFC (resetRegisters s)
  { r.2 with pc := r.1 }

/-! ## Taking an interrupt (R254, R255) and returning from one (R233) -/

/-- R255, R256: the vector of a serviced tag. -/
def vectorOf (k : Tag) : Addr := if k = .nmi then 0xFFFA else 0xFFFE

/-- R255: the status byte that the service of `k` pushes. -/
def pushedStatus (k : Tag) (p : Byte) : Byte := if k = .brk then statusWithB p else statusWithoutB p

/-- R255: `Service(k)`, for k in nmi, irq, brk. -/
def service (k : Tag) (s : State) : State :=
  let s1 := push16 s.pc s
  let s2 := push (pushedStatus k s1.p) s1
  let s3 := if Config.intSetsI then setI true s2 else s2
  let r := memRead16 (vectorOf k) s3
  addCycles Config.intCycles { r.2 with pc := r.1, pending := .none }

/-- R254: `ServicePending()`. A masked tag stays (R258). -/
def servicePending (s : State) : State :=
  match s.pending with
  | .none => s
  | .reset => addCycles Config.intCycles (doReset s)
  | .nmi => service .nmi s
  | .irq => if flagI s.p then s else service .irq s
  | .brk => if flagI s.p then s else service .brk s

/-- R254: would the check act on the pending tag? -/
def interruptDue (s : State) : Bool :=
  match s.pending with
  | .none => false
  | .reset => true
  | .nmi => true
  | .irq => !flagI s.p
  | .brk => !flagI s.p

/-- R233: the return from an interrupt: status, then PC low, then PC high, with nothing added. -/
def returnFromInterrupt (s : State) : State :=
  let v := pull s
  let r := pull16 { v.2 with p := statusPulled v.1 }
  { r.2 with pc := r.1 }

end Sys2Proof.Machine
end

