-- ==== Sys2Proof/Machine/Timing.lean ====
section
/-! DEFINITION. `CycleTable` and `PagePenalty` (spec/70_reset_and_hazards.md rules R495, R496). -/

namespace Sys2Proof.Machine

/-- R495, rows of the grid by the opcode's high nibble; an unknown opcode's entry is `UNKNOWN_OPCODE_CYCLES`. -/
def cycleRows : List (List Nat) :=
  let u := Config.unknownOpcodeCycles
  [[7, 6, u, u, u, 3, 5, u, 3, 2, 2, u, u, 4, 6, u],
   [2, 5, u, u, u, 4, 6, u, 2, 4, u, u, u, 4, 7, u],
   [6, 6, u, u, 3, 3, 5, u, 4, 2, 2, u, 4, 4, 6, u],
   [2, 5, u, u, u, 4, 6, u, 2, 4, u, u, u, 4, 7, u],
   [6, 6, u, u, u, 3, 5, u, 3, 2, 2, u, 3, 4, 6, u],
   [2, 5, u, u, u, 4, 6, u, 2, 4, u, u, u, 4, 7, u],
   [6, 6, u, u, u, 3, 5, u, 4, 2, 2, u, 5, 4, 6, u],
   [2, 5, u, u, u, 4, 6, u, 2, 4, u, u, u, 4, 7, u],
   [u, 6, u, u, 3, 3, 3, u, 2, u, 2, u, 4, 4, 4, u],
   [2, 6, u, u, 4, 4, 4, u, 2, 5, 2, u, u, 5, u, u],
   [2, 6, 2, u, 3, 3, 3, u, 2, 2, 2, u, 4, 4, 4, u],
   [2, 5, u, u, 4, 4, 4, u, 2, 4, 2, u, 4, 4, 4, u],
   [2, 6, u, u, 3, 3, 5, u, 2, 2, 2, u, 4, 4, 6, u],
   [2, 5, u, u, u, 4, 6, u, 2, 4, u, u, u, 4, 7, u],
   [2, 6, u, u, 3, 3, 5, u, 2, 2, 2, u, 4, 4, 6, u],
   [2, 5, u, u, u, 4, 6, u, 2, 4, u, u, u, 4, 7, u]]

/-- `CycleTable(op)`. -/
def cycleTable (op : Byte) : Nat :=
  (cycleRows.getD (op.toNat / 16) []).getD (op.toNat % 16) 0

/-- R495: the 23 opcodes marked `+`. -/
def pagePenaltyOps : List Nat :=
  [0x11, 0x19, 0x1D, 0x31, 0x39, 0x3D, 0x51, 0x59, 0x5D, 0x71, 0x79, 0x7D,
   0xB1, 0xB9, 0xBC, 0xBD, 0xBE, 0xD1, 0xD9, 0xDD, 0xF1, 0xF9, 0xFD]

/-- `PagePenalty(op)`. -/
def pagePenalty (op : Byte) : Bool := pagePenaltyOps.contains op.toNat

/-- R496: the base count, and one more when a penalised opcode's address step crossed a page. -/
def opCycles (op : Byte) (crossed : Bool) : Nat :=
  cycleTable op + (pagePenalty op && crossed).toNat

end Sys2Proof.Machine
end

