-- ==== Sys2Proof/Machine/Operands.lean ====
section
/-! DEFINITION. The addressing-mode steps (spec/30_encoding.md rules R113 to R125) and the shapes of an instruction: read,
write, read-modify-write, accumulator, implied, branch (spec/00_scope.md rule R17). Each runs after the instruction's own bytes
have been fetched, so `pc` is already the address of the next instruction and the operand bytes are arguments (log entry 15). -/

namespace Sys2Proof.Machine

/-- The result of an addressing-mode step for a memory operand: the effective address, and whether indexing crossed a page. -/
structure Ea where
  addr    : Addr
  crossed : Bool
  deriving DecidableEq, Repr

/-- R120, R121, R123: `base + index` modulo 65536. -/
def indexed (base : Addr) (i : Byte) : Ea :=
  let ea := base + i.setWidth 16
  { addr := ea, crossed := decide (hiByte ea ≠ hiByte base) }

/-- R116. -/
def eaZp (d : Byte) (s : State) : Ea × State := ({ addr := zpAddr d, crossed := false }, s)
/-- R117: the sum wraps inside the zero page. -/
def eaZpx (d : Byte) (s : State) : Ea × State := ({ addr := zpAddr (d + s.x), crossed := false }, s)
/-- R118. -/
def eaZpy (d : Byte) (s : State) : Ea × State := ({ addr := zpAddr (d + s.y), crossed := false }, s)
/-- R119. -/
def eaAbs (a : Addr) (s : State) : Ea × State := ({ addr := a, crossed := false }, s)
/-- R120. -/
def eaAbx (a : Addr) (s : State) : Ea × State := (indexed a s.x, s)
/-- R121. -/
def eaAby (a : Addr) (s : State) : Ea × State := (indexed a s.y, s)
/-- R122: the pointer at `d + X` in the zero page. -/
def eaIzx (d : Byte) (s : State) : Ea × State :=
  let r := zpRead16 (d + s.x) s
  ({ addr := r.1, crossed := false }, r.2)
/-- R123: the pointer at `d` in the zero page, plus Y. -/
def eaIzy (d : Byte) (s : State) : Ea × State :=
  let r := zpRead16 d s
  (indexed r.1 r.2.y, r.2)

/-- R124: the address of the high byte of an indirect jump's target. -/
def indirectHiAddr (ptr : Addr) : Addr :=
  if Config.jmpIndPageWrap then word (hiByte ptr) (loByte ptr + 1) else ptr + 1

/-- R124. -/
def eaInd (ptr : Addr) (s : State) : Ea × State :=
  let lo := memRead ptr s
  let hi := memRead (indirectHiAddr ptr) lo.2
  ({ addr := word hi.1 lo.1, crossed := false }, hi.2)

/-- R125: the target of a branch, `pc` being the address of the next instruction. -/
def eaRel (d : Byte) (s : State) : Ea :=
  let ea := s.pc + signExtend8 d
  { addr := ea, crossed := decide (hiByte ea ≠ hiByte s.pc) }

/-! ## Shapes -/

/-- An instruction without operand bytes, or one whose operand needs no address: do `f`, charge the table's cycles. -/
def implied (op : Byte) (f : State → State) (s : State) : State := addCycles (opCycles op false) (f s)

/-- An immediate operand `m` (R115). -/
def immediate (op : Byte) (m : Byte) (f : Byte → State → State) (s : State) : State :=
  addCycles (opCycles op false) (f m s)

/-- A read-type instruction: the operand is read exactly once (R17). -/
def readMem (op : Byte) (e : Ea × State) (f : Byte → State → State) : State :=
  let r := memRead e.1.addr e.2
  addCycles (opCycles op e.1.crossed) (f r.1 r.2)

/-- A write-type instruction: one write of the register that `v` names. -/
def writeMem (op : Byte) (e : Ea × State) (v : State → Byte) : State :=
  addCycles (opCycles op e.1.crossed) (memWrite e.1.addr (v e.2) e.2)

/-- A read-modify-write instruction: one read, then one write of the same address (R92), then N and Z of the result. -/
def modifyMem (op : Byte) (e : Ea × State) (f : Byte → State → Byte × State) : State :=
  let m := memRead e.1.addr e.2
  let r := f m.1 m.2
  addCycles (opCycles op e.1.crossed) (setNZ r.1 (memWrite e.1.addr r.1 r.2))

/-- The accumulator form of a shift (R114). -/
def modifyAcc (op : Byte) (f : Byte → State → Byte × State) (s : State) : State :=
  let r := f s.a s
  addCycles (opCycles op false) (setNZ r.1 { r.2 with a := r.1 })

/-- R203: the eight branches. -/
def branch (op : Byte) (d : Byte) (cond : Bool) (s : State) : State :=
  let e := eaRel d s
  if cond then addCycles (cycleTable op + (if e.crossed then 2 else 1)) { s with pc := e.addr }
  else addCycles (cycleTable op) s

/-- R236: `UnknownOpcode(op)`, `pc` being one past the opcode. -/
def unknownOpcode (op : Byte) (s : State) : Result :=
  match Config.unknownOpcodePolicy with
  | .skip => .next (addCycles Config.unknownOpcodeCycles
      (logMsg (.unknownOpcode op (s.pc - 1)) { s with sawUnknownOpcode := true }))
  | .fault => .fault (.unknownOpcode op)

end Sys2Proof.Machine
end

