-- ==== Sys2Proof/Machine/Arithmetic.lean ====
section
/-! DEFINITION. Meanings: Arithmetic, logic, compare, increment, decrement (spec/41_arithmetic_logic.md).
`s` is the state after the instruction's own bytes have been fetched. -/

namespace Sys2Proof.Machine

/-- 0x61 `ADC ($nn,X)` (R160, R122) -/
def execAdcIzx (d : Byte) (s : State) : Result := .next (readMem 0x61 (eaIzx d s) adcOp)
/-- 0x65 `ADC $nn` (R160, R116) -/
def execAdcZp (d : Byte) (s : State) : Result := .next (readMem 0x65 (eaZp d s) adcOp)
/-- 0x69 `ADC #$nn` (R160, R115) -/
def execAdcImm (d : Byte) (s : State) : Result := .next (immediate 0x69 d adcOp s)
/-- 0x6D `ADC $nnnn` (R160, R119) -/
def execAdcAbs (a : Addr) (s : State) : Result := .next (readMem 0x6D (eaAbs a s) adcOp)
/-- 0x71 `ADC ($nn),Y` (R160, R123) -/
def execAdcIzy (d : Byte) (s : State) : Result := .next (readMem 0x71 (eaIzy d s) adcOp)
/-- 0x75 `ADC $nn,X` (R160, R117) -/
def execAdcZpx (d : Byte) (s : State) : Result := .next (readMem 0x75 (eaZpx d s) adcOp)
/-- 0x79 `ADC $nnnn,Y` (R160, R121) -/
def execAdcAby (a : Addr) (s : State) : Result := .next (readMem 0x79 (eaAby a s) adcOp)
/-- 0x7D `ADC $nnnn,X` (R160, R120) -/
def execAdcAbx (a : Addr) (s : State) : Result := .next (readMem 0x7D (eaAbx a s) adcOp)
/-- 0xE1 `SBC ($nn,X)` (R161, R122) -/
def execSbcIzx (d : Byte) (s : State) : Result := .next (readMem 0xE1 (eaIzx d s) sbcOp)
/-- 0xE5 `SBC $nn` (R161, R116) -/
def execSbcZp (d : Byte) (s : State) : Result := .next (readMem 0xE5 (eaZp d s) sbcOp)
/-- 0xE9 `SBC #$nn` (R161, R115) -/
def execSbcImm (d : Byte) (s : State) : Result := .next (immediate 0xE9 d sbcOp s)
/-- 0xED `SBC $nnnn` (R161, R119) -/
def execSbcAbs (a : Addr) (s : State) : Result := .next (readMem 0xED (eaAbs a s) sbcOp)
/-- 0xF1 `SBC ($nn),Y` (R161, R123) -/
def execSbcIzy (d : Byte) (s : State) : Result := .next (readMem 0xF1 (eaIzy d s) sbcOp)
/-- 0xF5 `SBC $nn,X` (R161, R117) -/
def execSbcZpx (d : Byte) (s : State) : Result := .next (readMem 0xF5 (eaZpx d s) sbcOp)
/-- 0xF9 `SBC $nnnn,Y` (R161, R121) -/
def execSbcAby (a : Addr) (s : State) : Result := .next (readMem 0xF9 (eaAby a s) sbcOp)
/-- 0xFD `SBC $nnnn,X` (R161, R120) -/
def execSbcAbx (a : Addr) (s : State) : Result := .next (readMem 0xFD (eaAbx a s) sbcOp)
/-- 0x21 `AND ($nn,X)` (R162, R122) -/
def execAndIzx (d : Byte) (s : State) : Result := .next (readMem 0x21 (eaIzx d s) andOp)
/-- 0x25 `AND $nn` (R162, R116) -/
def execAndZp (d : Byte) (s : State) : Result := .next (readMem 0x25 (eaZp d s) andOp)
/-- 0x29 `AND #$nn` (R162, R115) -/
def execAndImm (d : Byte) (s : State) : Result := .next (immediate 0x29 d andOp s)
/-- 0x2D `AND $nnnn` (R162, R119) -/
def execAndAbs (a : Addr) (s : State) : Result := .next (readMem 0x2D (eaAbs a s) andOp)
/-- 0x31 `AND ($nn),Y` (R162, R123) -/
def execAndIzy (d : Byte) (s : State) : Result := .next (readMem 0x31 (eaIzy d s) andOp)
/-- 0x35 `AND $nn,X` (R162, R117) -/
def execAndZpx (d : Byte) (s : State) : Result := .next (readMem 0x35 (eaZpx d s) andOp)
/-- 0x39 `AND $nnnn,Y` (R162, R121) -/
def execAndAby (a : Addr) (s : State) : Result := .next (readMem 0x39 (eaAby a s) andOp)
/-- 0x3D `AND $nnnn,X` (R162, R120) -/
def execAndAbx (a : Addr) (s : State) : Result := .next (readMem 0x3D (eaAbx a s) andOp)
/-- 0x01 `ORA ($nn,X)` (R163, R122) -/
def execOraIzx (d : Byte) (s : State) : Result := .next (readMem 0x01 (eaIzx d s) oraOp)
/-- 0x05 `ORA $nn` (R163, R116) -/
def execOraZp (d : Byte) (s : State) : Result := .next (readMem 0x05 (eaZp d s) oraOp)
/-- 0x09 `ORA #$nn` (R163, R115) -/
def execOraImm (d : Byte) (s : State) : Result := .next (immediate 0x09 d oraOp s)
/-- 0x0D `ORA $nnnn` (R163, R119) -/
def execOraAbs (a : Addr) (s : State) : Result := .next (readMem 0x0D (eaAbs a s) oraOp)
/-- 0x11 `ORA ($nn),Y` (R163, R123) -/
def execOraIzy (d : Byte) (s : State) : Result := .next (readMem 0x11 (eaIzy d s) oraOp)
/-- 0x15 `ORA $nn,X` (R163, R117) -/
def execOraZpx (d : Byte) (s : State) : Result := .next (readMem 0x15 (eaZpx d s) oraOp)
/-- 0x19 `ORA $nnnn,Y` (R163, R121) -/
def execOraAby (a : Addr) (s : State) : Result := .next (readMem 0x19 (eaAby a s) oraOp)
/-- 0x1D `ORA $nnnn,X` (R163, R120) -/
def execOraAbx (a : Addr) (s : State) : Result := .next (readMem 0x1D (eaAbx a s) oraOp)
/-- 0x41 `EOR ($nn,X)` (R164, R122) -/
def execEorIzx (d : Byte) (s : State) : Result := .next (readMem 0x41 (eaIzx d s) eorOp)
/-- 0x45 `EOR $nn` (R164, R116) -/
def execEorZp (d : Byte) (s : State) : Result := .next (readMem 0x45 (eaZp d s) eorOp)
/-- 0x49 `EOR #$nn` (R164, R115) -/
def execEorImm (d : Byte) (s : State) : Result := .next (immediate 0x49 d eorOp s)
/-- 0x4D `EOR $nnnn` (R164, R119) -/
def execEorAbs (a : Addr) (s : State) : Result := .next (readMem 0x4D (eaAbs a s) eorOp)
/-- 0x51 `EOR ($nn),Y` (R164, R123) -/
def execEorIzy (d : Byte) (s : State) : Result := .next (readMem 0x51 (eaIzy d s) eorOp)
/-- 0x55 `EOR $nn,X` (R164, R117) -/
def execEorZpx (d : Byte) (s : State) : Result := .next (readMem 0x55 (eaZpx d s) eorOp)
/-- 0x59 `EOR $nnnn,Y` (R164, R121) -/
def execEorAby (a : Addr) (s : State) : Result := .next (readMem 0x59 (eaAby a s) eorOp)
/-- 0x5D `EOR $nnnn,X` (R164, R120) -/
def execEorAbx (a : Addr) (s : State) : Result := .next (readMem 0x5D (eaAbx a s) eorOp)
/-- 0xC1 `CMP ($nn,X)` (R165, R122) -/
def execCmpIzx (d : Byte) (s : State) : Result := .next (readMem 0xC1 (eaIzx d s) (fun m t => compareOp t.a m t))
/-- 0xC5 `CMP $nn` (R165, R116) -/
def execCmpZp (d : Byte) (s : State) : Result := .next (readMem 0xC5 (eaZp d s) (fun m t => compareOp t.a m t))
/-- 0xC9 `CMP #$nn` (R165, R115) -/
def execCmpImm (d : Byte) (s : State) : Result := .next (immediate 0xC9 d (fun m t => compareOp t.a m t) s)
/-- 0xCD `CMP $nnnn` (R165, R119) -/
def execCmpAbs (a : Addr) (s : State) : Result := .next (readMem 0xCD (eaAbs a s) (fun m t => compareOp t.a m t))
/-- 0xD1 `CMP ($nn),Y` (R165, R123) -/
def execCmpIzy (d : Byte) (s : State) : Result := .next (readMem 0xD1 (eaIzy d s) (fun m t => compareOp t.a m t))
/-- 0xD5 `CMP $nn,X` (R165, R117) -/
def execCmpZpx (d : Byte) (s : State) : Result := .next (readMem 0xD5 (eaZpx d s) (fun m t => compareOp t.a m t))
/-- 0xD9 `CMP $nnnn,Y` (R165, R121) -/
def execCmpAby (a : Addr) (s : State) : Result := .next (readMem 0xD9 (eaAby a s) (fun m t => compareOp t.a m t))
/-- 0xDD `CMP $nnnn,X` (R165, R120) -/
def execCmpAbx (a : Addr) (s : State) : Result := .next (readMem 0xDD (eaAbx a s) (fun m t => compareOp t.a m t))
/-- 0xE0 `CPX #$nn` (R166, R115) -/
def execCpxImm (d : Byte) (s : State) : Result := .next (immediate 0xE0 d (fun m t => compareOp t.x m t) s)
/-- 0xE4 `CPX $nn` (R166, R116) -/
def execCpxZp (d : Byte) (s : State) : Result := .next (readMem 0xE4 (eaZp d s) (fun m t => compareOp t.x m t))
/-- 0xEC `CPX $nnnn` (R166, R119) -/
def execCpxAbs (a : Addr) (s : State) : Result := .next (readMem 0xEC (eaAbs a s) (fun m t => compareOp t.x m t))
/-- 0xC0 `CPY #$nn` (R167, R115) -/
def execCpyImm (d : Byte) (s : State) : Result := .next (immediate 0xC0 d (fun m t => compareOp t.y m t) s)
/-- 0xC4 `CPY $nn` (R167, R116) -/
def execCpyZp (d : Byte) (s : State) : Result := .next (readMem 0xC4 (eaZp d s) (fun m t => compareOp t.y m t))
/-- 0xCC `CPY $nnnn` (R167, R119) -/
def execCpyAbs (a : Addr) (s : State) : Result := .next (readMem 0xCC (eaAbs a s) (fun m t => compareOp t.y m t))
/-- 0x24 `BIT $nn` (R168, R116) -/
def execBitZp (d : Byte) (s : State) : Result := .next (readMem 0x24 (eaZp d s) bitOp)
/-- 0x2C `BIT $nnnn` (R168, R119) -/
def execBitAbs (a : Addr) (s : State) : Result := .next (readMem 0x2C (eaAbs a s) bitOp)
/-- 0xE6 `INC $nn` (R169, R116) -/
def execIncZp (d : Byte) (s : State) : Result := .next (modifyMem 0xE6 (eaZp d s) incOp)
/-- 0xEE `INC $nnnn` (R169, R119) -/
def execIncAbs (a : Addr) (s : State) : Result := .next (modifyMem 0xEE (eaAbs a s) incOp)
/-- 0xF6 `INC $nn,X` (R169, R117) -/
def execIncZpx (d : Byte) (s : State) : Result := .next (modifyMem 0xF6 (eaZpx d s) incOp)
/-- 0xFE `INC $nnnn,X` (R169, R120) -/
def execIncAbx (a : Addr) (s : State) : Result := .next (modifyMem 0xFE (eaAbx a s) incOp)
/-- 0xC6 `DEC $nn` (R170, R116) -/
def execDecZp (d : Byte) (s : State) : Result := .next (modifyMem 0xC6 (eaZp d s) decOp)
/-- 0xCE `DEC $nnnn` (R170, R119) -/
def execDecAbs (a : Addr) (s : State) : Result := .next (modifyMem 0xCE (eaAbs a s) decOp)
/-- 0xD6 `DEC $nn,X` (R170, R117) -/
def execDecZpx (d : Byte) (s : State) : Result := .next (modifyMem 0xD6 (eaZpx d s) decOp)
/-- 0xDE `DEC $nnnn,X` (R170, R120) -/
def execDecAbx (a : Addr) (s : State) : Result := .next (modifyMem 0xDE (eaAbx a s) decOp)
/-- 0xE8 `INX` (R171, R113) -/
def execInx (s : State) : Result := .next (implied 0xE8 (fun t => ldxOp (t.x + 1) t) s)
/-- 0xC8 `INY` (R172, R113) -/
def execIny (s : State) : Result := .next (implied 0xC8 (fun t => ldyOp (t.y + 1) t) s)
/-- 0xCA `DEX` (R173, R113) -/
def execDex (s : State) : Result := .next (implied 0xCA (fun t => ldxOp (t.x - 1) t) s)
/-- 0x88 `DEY` (R174, R113) -/
def execDey (s : State) : Result := .next (implied 0x88 (fun t => ldyOp (t.y - 1) t) s)

end Sys2Proof.Machine
end

