-- ==== Sys2Proof/Machine/Control.lean ====
section
/-! DEFINITION. Meanings: Control transfer (spec/43_control_transfer.md).
`s` is the state after the instruction's own bytes have been fetched. -/

namespace Sys2Proof.Machine

/-- 0x4C `JMP $nnnn` (R200, R119) -/
def execJmpAbs (a : Addr) (s : State) : Result := .next (implied 0x4C (fun t => { t with pc := a }) s)
/-- 0x6C `JMP ($nnnn)` (R200, R124) -/
def execJmpInd (a : Addr) (s : State) : Result := .next (implied 0x6C (fun t => { (eaInd a t).2 with pc := (eaInd a t).1.addr }) s)
/-- 0x20 `JSR $nnnn` (R201, R119) -/
def execJsrAbs (a : Addr) (s : State) : Result := .next (implied 0x20 (fun t => { push16 (t.pc - 1) t with pc := a }) s)
/-- 0x60 `RTS` (R202, R113) -/
def execRts (s : State) : Result := .next (implied 0x60 (fun t => { (pull16 t).2 with pc := (pull16 t).1 + 1 }) s)
/-- 0x90 `BCC label` (R204, R125) -/
def execBccRel (d : Byte) (s : State) : Result := .next (branch 0x90 d (!flagC s.p) s)
/-- 0xB0 `BCS label` (R205, R125) -/
def execBcsRel (d : Byte) (s : State) : Result := .next (branch 0xB0 d (flagC s.p) s)
/-- 0xF0 `BEQ label` (R206, R125) -/
def execBeqRel (d : Byte) (s : State) : Result := .next (branch 0xF0 d (flagZ s.p) s)
/-- 0xD0 `BNE label` (R207, R125) -/
def execBneRel (d : Byte) (s : State) : Result := .next (branch 0xD0 d (!flagZ s.p) s)
/-- 0x30 `BMI label` (R208, R125) -/
def execBmiRel (d : Byte) (s : State) : Result := .next (branch 0x30 d (flagN s.p) s)
/-- 0x10 `BPL label` (R209, R125) -/
def execBplRel (d : Byte) (s : State) : Result := .next (branch 0x10 d (!flagN s.p) s)
/-- 0x50 `BVC label` (R210, R125) -/
def execBvcRel (d : Byte) (s : State) : Result := .next (branch 0x50 d (!flagV s.p) s)
/-- 0x70 `BVS label` (R211, R125) -/
def execBvsRel (d : Byte) (s : State) : Result := .next (branch 0x70 d (flagV s.p) s)

end Sys2Proof.Machine
end

