-- ==== Sys2Proof/Machine/LoadStore.lean ====
section
/-! DEFINITION. Meanings: Load, store and register transfer (spec/40_load_store_transfer.md).
`s` is the state after the instruction's own bytes have been fetched. -/

namespace Sys2Proof.Machine

/-- 0xA1 `LDA ($nn,X)` (R140, R122) -/
def execLdaIzx (d : Byte) (s : State) : Result := .next (readMem 0xA1 (eaIzx d s) ldaOp)
/-- 0xA5 `LDA $nn` (R140, R116) -/
def execLdaZp (d : Byte) (s : State) : Result := .next (readMem 0xA5 (eaZp d s) ldaOp)
/-- 0xA9 `LDA #$nn` (R140, R115) -/
def execLdaImm (d : Byte) (s : State) : Result := .next (immediate 0xA9 d ldaOp s)
/-- 0xAD `LDA $nnnn` (R140, R119) -/
def execLdaAbs (a : Addr) (s : State) : Result := .next (readMem 0xAD (eaAbs a s) ldaOp)
/-- 0xB1 `LDA ($nn),Y` (R140, R123) -/
def execLdaIzy (d : Byte) (s : State) : Result := .next (readMem 0xB1 (eaIzy d s) ldaOp)
/-- 0xB5 `LDA $nn,X` (R140, R117) -/
def execLdaZpx (d : Byte) (s : State) : Result := .next (readMem 0xB5 (eaZpx d s) ldaOp)
/-- 0xB9 `LDA $nnnn,Y` (R140, R121) -/
def execLdaAby (a : Addr) (s : State) : Result := .next (readMem 0xB9 (eaAby a s) ldaOp)
/-- 0xBD `LDA $nnnn,X` (R140, R120) -/
def execLdaAbx (a : Addr) (s : State) : Result := .next (readMem 0xBD (eaAbx a s) ldaOp)
/-- 0xA2 `LDX #$nn` (R141, R115) -/
def execLdxImm (d : Byte) (s : State) : Result := .next (immediate 0xA2 d ldxOp s)
/-- 0xA6 `LDX $nn` (R141, R116) -/
def execLdxZp (d : Byte) (s : State) : Result := .next (readMem 0xA6 (eaZp d s) ldxOp)
/-- 0xAE `LDX $nnnn` (R141, R119) -/
def execLdxAbs (a : Addr) (s : State) : Result := .next (readMem 0xAE (eaAbs a s) ldxOp)
/-- 0xB6 `LDX $nn,Y` (R141, R118) -/
def execLdxZpy (d : Byte) (s : State) : Result := .next (readMem 0xB6 (eaZpy d s) ldxOp)
/-- 0xBE `LDX $nnnn,Y` (R141, R121) -/
def execLdxAby (a : Addr) (s : State) : Result := .next (readMem 0xBE (eaAby a s) ldxOp)
/-- 0xA0 `LDY #$nn` (R142, R115) -/
def execLdyImm (d : Byte) (s : State) : Result := .next (immediate 0xA0 d ldyOp s)
/-- 0xA4 `LDY $nn` (R142, R116) -/
def execLdyZp (d : Byte) (s : State) : Result := .next (readMem 0xA4 (eaZp d s) ldyOp)
/-- 0xAC `LDY $nnnn` (R142, R119) -/
def execLdyAbs (a : Addr) (s : State) : Result := .next (readMem 0xAC (eaAbs a s) ldyOp)
/-- 0xB4 `LDY $nn,X` (R142, R117) -/
def execLdyZpx (d : Byte) (s : State) : Result := .next (readMem 0xB4 (eaZpx d s) ldyOp)
/-- 0xBC `LDY $nnnn,X` (R142, R120) -/
def execLdyAbx (a : Addr) (s : State) : Result := .next (readMem 0xBC (eaAbx a s) ldyOp)
/-- 0x81 `STA ($nn,X)` (R143, R122) -/
def execStaIzx (d : Byte) (s : State) : Result := .next (writeMem 0x81 (eaIzx d s) (fun t => t.a))
/-- 0x85 `STA $nn` (R143, R116) -/
def execStaZp (d : Byte) (s : State) : Result := .next (writeMem 0x85 (eaZp d s) (fun t => t.a))
/-- 0x8D `STA $nnnn` (R143, R119) -/
def execStaAbs (a : Addr) (s : State) : Result := .next (writeMem 0x8D (eaAbs a s) (fun t => t.a))
/-- 0x91 `STA ($nn),Y` (R143, R123) -/
def execStaIzy (d : Byte) (s : State) : Result := .next (writeMem 0x91 (eaIzy d s) (fun t => t.a))
/-- 0x95 `STA $nn,X` (R143, R117) -/
def execStaZpx (d : Byte) (s : State) : Result := .next (writeMem 0x95 (eaZpx d s) (fun t => t.a))
/-- 0x99 `STA $nnnn,Y` (R143, R121) -/
def execStaAby (a : Addr) (s : State) : Result := .next (writeMem 0x99 (eaAby a s) (fun t => t.a))
/-- 0x9D `STA $nnnn,X` (R143, R120) -/
def execStaAbx (a : Addr) (s : State) : Result := .next (writeMem 0x9D (eaAbx a s) (fun t => t.a))
/-- 0x86 `STX $nn` (R144, R116) -/
def execStxZp (d : Byte) (s : State) : Result := .next (writeMem 0x86 (eaZp d s) (fun t => t.x))
/-- 0x8E `STX $nnnn` (R144, R119) -/
def execStxAbs (a : Addr) (s : State) : Result := .next (writeMem 0x8E (eaAbs a s) (fun t => t.x))
/-- 0x96 `STX $nn,Y` (R144, R118) -/
def execStxZpy (d : Byte) (s : State) : Result := .next (writeMem 0x96 (eaZpy d s) (fun t => t.x))
/-- 0x84 `STY $nn` (R145, R116) -/
def execStyZp (d : Byte) (s : State) : Result := .next (writeMem 0x84 (eaZp d s) (fun t => t.y))
/-- 0x8C `STY $nnnn` (R145, R119) -/
def execStyAbs (a : Addr) (s : State) : Result := .next (writeMem 0x8C (eaAbs a s) (fun t => t.y))
/-- 0x94 `STY $nn,X` (R145, R117) -/
def execStyZpx (d : Byte) (s : State) : Result := .next (writeMem 0x94 (eaZpx d s) (fun t => t.y))
/-- 0xAA `TAX` (R146, R113) -/
def execTax (s : State) : Result := .next (implied 0xAA (fun t => ldxOp t.a t) s)
/-- 0xA8 `TAY` (R147, R113) -/
def execTay (s : State) : Result := .next (implied 0xA8 (fun t => ldyOp t.a t) s)
/-- 0x8A `TXA` (R148, R113) -/
def execTxa (s : State) : Result := .next (implied 0x8A (fun t => ldaOp t.x t) s)
/-- 0x98 `TYA` (R149, R113) -/
def execTya (s : State) : Result := .next (implied 0x98 (fun t => ldaOp t.y t) s)
/-- 0xBA `TSX` (R150, R113) -/
def execTsx (s : State) : Result := .next (implied 0xBA (fun t => ldxOp t.sp t) s)
/-- 0x9A `TXS` (R151, R113) -/
def execTxs (s : State) : Result := .next (implied 0x9A (fun t => { t with sp := t.x }) s)

end Sys2Proof.Machine
end

