-- ==== Sys2Proof/Machine/Shift.lean ====
section
/-! DEFINITION. Meanings: Shift and rotate (spec/42_shift_rotate.md).
`s` is the state after the instruction's own bytes have been fetched. -/

namespace Sys2Proof.Machine

/-- 0x06 `ASL $nn` (R190, R116) -/
def execAslZp (d : Byte) (s : State) : Result := .next (modifyMem 0x06 (eaZp d s) aslOp)
/-- 0x0A `ASL A` (R190, R114) -/
def execAslAcc (s : State) : Result := .next (modifyAcc 0x0A aslOp s)
/-- 0x0E `ASL $nnnn` (R190, R119) -/
def execAslAbs (a : Addr) (s : State) : Result := .next (modifyMem 0x0E (eaAbs a s) aslOp)
/-- 0x16 `ASL $nn,X` (R190, R117) -/
def execAslZpx (d : Byte) (s : State) : Result := .next (modifyMem 0x16 (eaZpx d s) aslOp)
/-- 0x1E `ASL $nnnn,X` (R190, R120) -/
def execAslAbx (a : Addr) (s : State) : Result := .next (modifyMem 0x1E (eaAbx a s) aslOp)
/-- 0x46 `LSR $nn` (R191, R116) -/
def execLsrZp (d : Byte) (s : State) : Result := .next (modifyMem 0x46 (eaZp d s) lsrOp)
/-- 0x4A `LSR A` (R191, R114) -/
def execLsrAcc (s : State) : Result := .next (modifyAcc 0x4A lsrOp s)
/-- 0x4E `LSR $nnnn` (R191, R119) -/
def execLsrAbs (a : Addr) (s : State) : Result := .next (modifyMem 0x4E (eaAbs a s) lsrOp)
/-- 0x56 `LSR $nn,X` (R191, R117) -/
def execLsrZpx (d : Byte) (s : State) : Result := .next (modifyMem 0x56 (eaZpx d s) lsrOp)
/-- 0x5E `LSR $nnnn,X` (R191, R120) -/
def execLsrAbx (a : Addr) (s : State) : Result := .next (modifyMem 0x5E (eaAbx a s) lsrOp)
/-- 0x26 `ROL $nn` (R192, R116) -/
def execRolZp (d : Byte) (s : State) : Result := .next (modifyMem 0x26 (eaZp d s) rolOp)
/-- 0x2A `ROL A` (R192, R114) -/
def execRolAcc (s : State) : Result := .next (modifyAcc 0x2A rolOp s)
/-- 0x2E `ROL $nnnn` (R192, R119) -/
def execRolAbs (a : Addr) (s : State) : Result := .next (modifyMem 0x2E (eaAbs a s) rolOp)
/-- 0x36 `ROL $nn,X` (R192, R117) -/
def execRolZpx (d : Byte) (s : State) : Result := .next (modifyMem 0x36 (eaZpx d s) rolOp)
/-- 0x3E `ROL $nnnn,X` (R192, R120) -/
def execRolAbx (a : Addr) (s : State) : Result := .next (modifyMem 0x3E (eaAbx a s) rolOp)
/-- 0x66 `ROR $nn` (R193, R116) -/
def execRorZp (d : Byte) (s : State) : Result := .next (modifyMem 0x66 (eaZp d s) rorOp)
/-- 0x6A `ROR A` (R193, R114) -/
def execRorAcc (s : State) : Result := .next (modifyAcc 0x6A rorOp s)
/-- 0x6E `ROR $nnnn` (R193, R119) -/
def execRorAbs (a : Addr) (s : State) : Result := .next (modifyMem 0x6E (eaAbs a s) rorOp)
/-- 0x76 `ROR $nn,X` (R193, R117) -/
def execRorZpx (d : Byte) (s : State) : Result := .next (modifyMem 0x76 (eaZpx d s) rorOp)
/-- 0x7E `ROR $nnnn,X` (R193, R120) -/
def execRorAbx (a : Addr) (s : State) : Result := .next (modifyMem 0x7E (eaAbx a s) rorOp)

end Sys2Proof.Machine
end

