-- ==== Sys2Proof/Machine/StackSystem.lean ====
section
/-! DEFINITION. Meanings: Stack, flags, no-operation and system instructions (spec/44_stack_flags_system.md).
`s` is the state after the instruction's own bytes have been fetched. -/

namespace Sys2Proof.Machine

/-- 0x48 `PHA` (R220, R113) -/
def execPha (s : State) : Result := .next (implied 0x48 (fun t => push t.a t) s)
/-- 0x68 `PLA` (R221, R113) -/
def execPla (s : State) : Result := .next (implied 0x68 (fun t => ldaOp (pull t).1 (pull t).2) s)
/-- 0x08 `PHP` (R222, R113) -/
def execPhp (s : State) : Result := .next (implied 0x08 (fun t => push (statusWithB t.p) t) s)
/-- 0x28 `PLP` (R223, R113) -/
def execPlp (s : State) : Result := .next (implied 0x28 (fun t => { (pull t).2 with p := statusPulled (pull t).1 }) s)
/-- 0x18 `CLC` (R224, R113) -/
def execClc (s : State) : Result := .next (implied 0x18 (setC false) s)
/-- 0x38 `SEC` (R225, R113) -/
def execSec (s : State) : Result := .next (implied 0x38 (setC true) s)
/-- 0x58 `CLI` (R226, R113) -/
def execCli (s : State) : Result := .next (implied 0x58 (setI false) s)
/-- 0x78 `SEI` (R227, R113) -/
def execSei (s : State) : Result := .next (implied 0x78 (setI true) s)
/-- 0xB8 `CLV` (R228, R113) -/
def execClv (s : State) : Result := .next (implied 0xB8 (setV false) s)
/-- 0xD8 `CLD` (R229, R113) -/
def execCld (s : State) : Result := .next (implied 0xD8 (setD false) s)
/-- 0xF8 `SED` (R230, R113) -/
def execSed (s : State) : Result := .next (implied 0xF8 (setD true) s)
/-- 0xEA `NOP` (R231, R113) -/
def execNop (s : State) : Result := .next (implied 0xEA (fun t => t) s)
/-- 0x00 `BRK` (R232, R113) -/
def execBrk (s : State) : Result := .next (implied 0x00 (fun t => request .brk { t with pc := t.pc + BitVec.ofNat 16 (Config.brkPcAdvance - 1) }) s)
/-- 0x40 `RTI` (R233, R113) -/
def execRti (s : State) : Result := .next (implied 0x40 returnFromInterrupt s)

end Sys2Proof.Machine
end

