-- ==== Sys2Proof/Machine/Unknown.lean ====
section
/-! DEFINITION. Meanings: The 105 unknown opcodes (spec/44_stack_flags_system.md rule R236).
`s` is the state after the instruction's own bytes have been fetched. -/

namespace Sys2Proof.Machine

def execUnknown02 (s : State) : Result := unknownOpcode 0x02 s
def execUnknown03 (s : State) : Result := unknownOpcode 0x03 s
def execUnknown04 (s : State) : Result := unknownOpcode 0x04 s
def execUnknown07 (s : State) : Result := unknownOpcode 0x07 s
def execUnknown0B (s : State) : Result := unknownOpcode 0x0B s
def execUnknown0C (s : State) : Result := unknownOpcode 0x0C s
def execUnknown0F (s : State) : Result := unknownOpcode 0x0F s
def execUnknown12 (s : State) : Result := unknownOpcode 0x12 s
def execUnknown13 (s : State) : Result := unknownOpcode 0x13 s
def execUnknown14 (s : State) : Result := unknownOpcode 0x14 s
def execUnknown17 (s : State) : Result := unknownOpcode 0x17 s
def execUnknown1A (s : State) : Result := unknownOpcode 0x1A s
def execUnknown1B (s : State) : Result := unknownOpcode 0x1B s
def execUnknown1C (s : State) : Result := unknownOpcode 0x1C s
def execUnknown1F (s : State) : Result := unknownOpcode 0x1F s
def execUnknown22 (s : State) : Result := unknownOpcode 0x22 s
def execUnknown23 (s : State) : Result := unknownOpcode 0x23 s
def execUnknown27 (s : State) : Result := unknownOpcode 0x27 s
def execUnknown2B (s : State) : Result := unknownOpcode 0x2B s
def execUnknown2F (s : State) : Result := unknownOpcode 0x2F s
def execUnknown32 (s : State) : Result := unknownOpcode 0x32 s
def execUnknown33 (s : State) : Result := unknownOpcode 0x33 s
def execUnknown34 (s : State) : Result := unknownOpcode 0x34 s
def execUnknown37 (s : State) : Result := unknownOpcode 0x37 s
def execUnknown3A (s : State) : Result := unknownOpcode 0x3A s
def execUnknown3B (s : State) : Result := unknownOpcode 0x3B s
def execUnknown3C (s : State) : Result := unknownOpcode 0x3C s
def execUnknown3F (s : State) : Result := unknownOpcode 0x3F s
def execUnknown42 (s : State) : Result := unknownOpcode 0x42 s
def execUnknown43 (s : State) : Result := unknownOpcode 0x43 s
def execUnknown44 (s : State) : Result := unknownOpcode 0x44 s
def execUnknown47 (s : State) : Result := unknownOpcode 0x47 s
def execUnknown4B (s : State) : Result := unknownOpcode 0x4B s
def execUnknown4F (s : State) : Result := unknownOpcode 0x4F s
def execUnknown52 (s : State) : Result := unknownOpcode 0x52 s
def execUnknown53 (s : State) : Result := unknownOpcode 0x53 s
def execUnknown54 (s : State) : Result := unknownOpcode 0x54 s
def execUnknown57 (s : State) : Result := unknownOpcode 0x57 s
def execUnknown5A (s : State) : Result := unknownOpcode 0x5A s
def execUnknown5B (s : State) : Result := unknownOpcode 0x5B s
def execUnknown5C (s : State) : Result := unknownOpcode 0x5C s
def execUnknown5F (s : State) : Result := unknownOpcode 0x5F s
def execUnknown62 (s : State) : Result := unknownOpcode 0x62 s
def execUnknown63 (s : State) : Result := unknownOpcode 0x63 s
def execUnknown64 (s : State) : Result := unknownOpcode 0x64 s
def execUnknown67 (s : State) : Result := unknownOpcode 0x67 s
def execUnknown6B (s : State) : Result := unknownOpcode 0x6B s
def execUnknown6F (s : State) : Result := unknownOpcode 0x6F s
def execUnknown72 (s : State) : Result := unknownOpcode 0x72 s
def execUnknown73 (s : State) : Result := unknownOpcode 0x73 s
def execUnknown74 (s : State) : Result := unknownOpcode 0x74 s
def execUnknown77 (s : State) : Result := unknownOpcode 0x77 s
def execUnknown7A (s : State) : Result := unknownOpcode 0x7A s
def execUnknown7B (s : State) : Result := unknownOpcode 0x7B s
def execUnknown7C (s : State) : Result := unknownOpcode 0x7C s
def execUnknown7F (s : State) : Result := unknownOpcode 0x7F s
def execUnknown80 (s : State) : Result := unknownOpcode 0x80 s
def execUnknown82 (s : State) : Result := unknownOpcode 0x82 s
def execUnknown83 (s : State) : Result := unknownOpcode 0x83 s
def execUnknown87 (s : State) : Result := unknownOpcode 0x87 s
def execUnknown89 (s : State) : Result := unknownOpcode 0x89 s
def execUnknown8B (s : State) : Result := unknownOpcode 0x8B s
def execUnknown8F (s : State) : Result := unknownOpcode 0x8F s
def execUnknown92 (s : State) : Result := unknownOpcode 0x92 s
def execUnknown93 (s : State) : Result := unknownOpcode 0x93 s
def execUnknown97 (s : State) : Result := unknownOpcode 0x97 s
def execUnknown9B (s : State) : Result := unknownOpcode 0x9B s
def execUnknown9C (s : State) : Result := unknownOpcode 0x9C s
def execUnknown9E (s : State) : Result := unknownOpcode 0x9E s
def execUnknown9F (s : State) : Result := unknownOpcode 0x9F s
def execUnknownA3 (s : State) : Result := unknownOpcode 0xA3 s
def execUnknownA7 (s : State) : Result := unknownOpcode 0xA7 s
def execUnknownAB (s : State) : Result := unknownOpcode 0xAB s
def execUnknownAF (s : State) : Result := unknownOpcode 0xAF s
def execUnknownB2 (s : State) : Result := unknownOpcode 0xB2 s
def execUnknownB3 (s : State) : Result := unknownOpcode 0xB3 s
def execUnknownB7 (s : State) : Result := unknownOpcode 0xB7 s
def execUnknownBB (s : State) : Result := unknownOpcode 0xBB s
def execUnknownBF (s : State) : Result := unknownOpcode 0xBF s
def execUnknownC2 (s : State) : Result := unknownOpcode 0xC2 s
def execUnknownC3 (s : State) : Result := unknownOpcode 0xC3 s
def execUnknownC7 (s : State) : Result := unknownOpcode 0xC7 s
def execUnknownCB (s : State) : Result := unknownOpcode 0xCB s
def execUnknownCF (s : State) : Result := unknownOpcode 0xCF s
def execUnknownD2 (s : State) : Result := unknownOpcode 0xD2 s
def execUnknownD3 (s : State) : Result := unknownOpcode 0xD3 s
def execUnknownD4 (s : State) : Result := unknownOpcode 0xD4 s
def execUnknownD7 (s : State) : Result := unknownOpcode 0xD7 s
def execUnknownDA (s : State) : Result := unknownOpcode 0xDA s
def execUnknownDB (s : State) : Result := unknownOpcode 0xDB s
def execUnknownDC (s : State) : Result := unknownOpcode 0xDC s
def execUnknownDF (s : State) : Result := unknownOpcode 0xDF s
def execUnknownE2 (s : State) : Result := unknownOpcode 0xE2 s
def execUnknownE3 (s : State) : Result := unknownOpcode 0xE3 s
def execUnknownE7 (s : State) : Result := unknownOpcode 0xE7 s
def execUnknownEB (s : State) : Result := unknownOpcode 0xEB s
def execUnknownEF (s : State) : Result := unknownOpcode 0xEF s
def execUnknownF2 (s : State) : Result := unknownOpcode 0xF2 s
def execUnknownF3 (s : State) : Result := unknownOpcode 0xF3 s
def execUnknownF4 (s : State) : Result := unknownOpcode 0xF4 s
def execUnknownF7 (s : State) : Result := unknownOpcode 0xF7 s
def execUnknownFA (s : State) : Result := unknownOpcode 0xFA s
def execUnknownFB (s : State) : Result := unknownOpcode 0xFB s
def execUnknownFC (s : State) : Result := unknownOpcode 0xFC s
def execUnknownFF (s : State) : Result := unknownOpcode 0xFF s

end Sys2Proof.Machine
end

