-- ==== Sys2Proof/Machine/Dispatch.lean ====
section
/-! DEFINITION. What each instruction does to the state, its own bytes already fetched: one call of a meaning per constructor. -/

namespace Sys2Proof.Machine

def exec (i : Instr) (s : State) : Host.Outcome State Fault Refusal :=
  match i with
  | .brk => Sys2Proof.Machine.execBrk s
  | .oraIzx d => Sys2Proof.Machine.execOraIzx d s
  | .unknown02 => Sys2Proof.Machine.execUnknown02 s
  | .unknown03 => Sys2Proof.Machine.execUnknown03 s
  | .unknown04 => Sys2Proof.Machine.execUnknown04 s
  | .oraZp d => Sys2Proof.Machine.execOraZp d s
  | .aslZp d => Sys2Proof.Machine.execAslZp d s
  | .unknown07 => Sys2Proof.Machine.execUnknown07 s
  | .php => Sys2Proof.Machine.execPhp s
  | .oraImm d => Sys2Proof.Machine.execOraImm d s
  | .aslAcc => Sys2Proof.Machine.execAslAcc s
  | .unknown0B => Sys2Proof.Machine.execUnknown0B s
  | .unknown0C => Sys2Proof.Machine.execUnknown0C s
  | .oraAbs a => Sys2Proof.Machine.execOraAbs a s
  | .aslAbs a => Sys2Proof.Machine.execAslAbs a s
  | .unknown0F => Sys2Proof.Machine.execUnknown0F s
  | .bplRel d => Sys2Proof.Machine.execBplRel d s
  | .oraIzy d => Sys2Proof.Machine.execOraIzy d s
  | .unknown12 => Sys2Proof.Machine.execUnknown12 s
  | .unknown13 => Sys2Proof.Machine.execUnknown13 s
  | .unknown14 => Sys2Proof.Machine.execUnknown14 s
  | .oraZpx d => Sys2Proof.Machine.execOraZpx d s
  | .aslZpx d => Sys2Proof.Machine.execAslZpx d s
  | .unknown17 => Sys2Proof.Machine.execUnknown17 s
  | .clc => Sys2Proof.Machine.execClc s
  | .oraAby a => Sys2Proof.Machine.execOraAby a s
  | .unknown1A => Sys2Proof.Machine.execUnknown1A s
  | .unknown1B => Sys2Proof.Machine.execUnknown1B s
  | .unknown1C => Sys2Proof.Machine.execUnknown1C s
  | .oraAbx a => Sys2Proof.Machine.execOraAbx a s
  | .aslAbx a => Sys2Proof.Machine.execAslAbx a s
  | .unknown1F => Sys2Proof.Machine.execUnknown1F s
  | .jsrAbs a => Sys2Proof.Machine.execJsrAbs a s
  | .andIzx d => Sys2Proof.Machine.execAndIzx d s
  | .unknown22 => Sys2Proof.Machine.execUnknown22 s
  | .unknown23 => Sys2Proof.Machine.execUnknown23 s
  | .bitZp d => Sys2Proof.Machine.execBitZp d s
  | .andZp d => Sys2Proof.Machine.execAndZp d s
  | .rolZp d => Sys2Proof.Machine.execRolZp d s
  | .unknown27 => Sys2Proof.Machine.execUnknown27 s
  | .plp => Sys2Proof.Machine.execPlp s
  | .andImm d => Sys2Proof.Machine.execAndImm d s
  | .rolAcc => Sys2Proof.Machine.execRolAcc s
  | .unknown2B => Sys2Proof.Machine.execUnknown2B s
  | .bitAbs a => Sys2Proof.Machine.execBitAbs a s
  | .andAbs a => Sys2Proof.Machine.execAndAbs a s
  | .rolAbs a => Sys2Proof.Machine.execRolAbs a s
  | .unknown2F => Sys2Proof.Machine.execUnknown2F s
  | .bmiRel d => Sys2Proof.Machine.execBmiRel d s
  | .andIzy d => Sys2Proof.Machine.execAndIzy d s
  | .unknown32 => Sys2Proof.Machine.execUnknown32 s
  | .unknown33 => Sys2Proof.Machine.execUnknown33 s
  | .unknown34 => Sys2Proof.Machine.execUnknown34 s
  | .andZpx d => Sys2Proof.Machine.execAndZpx d s
  | .rolZpx d => Sys2Proof.Machine.execRolZpx d s
  | .unknown37 => Sys2Proof.Machine.execUnknown37 s
  | .sec => Sys2Proof.Machine.execSec s
  | .andAby a => Sys2Proof.Machine.execAndAby a s
  | .unknown3A => Sys2Proof.Machine.execUnknown3A s
  | .unknown3B => Sys2Proof.Machine.execUnknown3B s
  | .unknown3C => Sys2Proof.Machine.execUnknown3C s
  | .andAbx a => Sys2Proof.Machine.execAndAbx a s
  | .rolAbx a => Sys2Proof.Machine.execRolAbx a s
  | .unknown3F => Sys2Proof.Machine.execUnknown3F s
  | .rti => Sys2Proof.Machine.execRti s
  | .eorIzx d => Sys2Proof.Machine.execEorIzx d s
  | .unknown42 => Sys2Proof.Machine.execUnknown42 s
  | .unknown43 => Sys2Proof.Machine.execUnknown43 s
  | .unknown44 => Sys2Proof.Machine.execUnknown44 s
  | .eorZp d => Sys2Proof.Machine.execEorZp d s
  | .lsrZp d => Sys2Proof.Machine.execLsrZp d s
  | .unknown47 => Sys2Proof.Machine.execUnknown47 s
  | .pha => Sys2Proof.Machine.execPha s
  | .eorImm d => Sys2Proof.Machine.execEorImm d s
  | .lsrAcc => Sys2Proof.Machine.execLsrAcc s
  | .unknown4B => Sys2Proof.Machine.execUnknown4B s
  | .jmpAbs a => Sys2Proof.Machine.execJmpAbs a s
  | .eorAbs a => Sys2Proof.Machine.execEorAbs a s
  | .lsrAbs a => Sys2Proof.Machine.execLsrAbs a s
  | .unknown4F => Sys2Proof.Machine.execUnknown4F s
  | .bvcRel d => Sys2Proof.Machine.execBvcRel d s
  | .eorIzy d => Sys2Proof.Machine.execEorIzy d s
  | .unknown52 => Sys2Proof.Machine.execUnknown52 s
  | .unknown53 => Sys2Proof.Machine.execUnknown53 s
  | .unknown54 => Sys2Proof.Machine.execUnknown54 s
  | .eorZpx d => Sys2Proof.Machine.execEorZpx d s
  | .lsrZpx d => Sys2Proof.Machine.execLsrZpx d s
  | .unknown57 => Sys2Proof.Machine.execUnknown57 s
  | .cli => Sys2Proof.Machine.execCli s
  | .eorAby a => Sys2Proof.Machine.execEorAby a s
  | .unknown5A => Sys2Proof.Machine.execUnknown5A s
  | .unknown5B => Sys2Proof.Machine.execUnknown5B s
  | .unknown5C => Sys2Proof.Machine.execUnknown5C s
  | .eorAbx a => Sys2Proof.Machine.execEorAbx a s
  | .lsrAbx a => Sys2Proof.Machine.execLsrAbx a s
  | .unknown5F => Sys2Proof.Machine.execUnknown5F s
  | .rts => Sys2Proof.Machine.execRts s
  | .adcIzx d => Sys2Proof.Machine.execAdcIzx d s
  | .unknown62 => Sys2Proof.Machine.execUnknown62 s
  | .unknown63 => Sys2Proof.Machine.execUnknown63 s
  | .unknown64 => Sys2Proof.Machine.execUnknown64 s
  | .adcZp d => Sys2Proof.Machine.execAdcZp d s
  | .rorZp d => Sys2Proof.Machine.execRorZp d s
  | .unknown67 => Sys2Proof.Machine.execUnknown67 s
  | .pla => Sys2Proof.Machine.execPla s
  | .adcImm d => Sys2Proof.Machine.execAdcImm d s
  | .rorAcc => Sys2Proof.Machine.execRorAcc s
  | .unknown6B => Sys2Proof.Machine.execUnknown6B s
  | .jmpInd a => Sys2Proof.Machine.execJmpInd a s
  | .adcAbs a => Sys2Proof.Machine.execAdcAbs a s
  | .rorAbs a => Sys2Proof.Machine.execRorAbs a s
  | .unknown6F => Sys2Proof.Machine.execUnknown6F s
  | .bvsRel d => Sys2Proof.Machine.execBvsRel d s
  | .adcIzy d => Sys2Proof.Machine.execAdcIzy d s
  | .unknown72 => Sys2Proof.Machine.execUnknown72 s
  | .unknown73 => Sys2Proof.Machine.execUnknown73 s
  | .unknown74 => Sys2Proof.Machine.execUnknown74 s
  | .adcZpx d => Sys2Proof.Machine.execAdcZpx d s
  | .rorZpx d => Sys2Proof.Machine.execRorZpx d s
  | .unknown77 => Sys2Proof.Machine.execUnknown77 s
  | .sei => Sys2Proof.Machine.execSei s
  | .adcAby a => Sys2Proof.Machine.execAdcAby a s
  | .unknown7A => Sys2Proof.Machine.execUnknown7A s
  | .unknown7B => Sys2Proof.Machine.execUnknown7B s
  | .unknown7C => Sys2Proof.Machine.execUnknown7C s
  | .adcAbx a => Sys2Proof.Machine.execAdcAbx a s
  | .rorAbx a => Sys2Proof.Machine.execRorAbx a s
  | .unknown7F => Sys2Proof.Machine.execUnknown7F s
  | .unknown80 => Sys2Proof.Machine.execUnknown80 s
  | .staIzx d => Sys2Proof.Machine.execStaIzx d s
  | .unknown82 => Sys2Proof.Machine.execUnknown82 s
  | .unknown83 => Sys2Proof.Machine.execUnknown83 s
  | .styZp d => Sys2Proof.Machine.execStyZp d s
  | .staZp d => Sys2Proof.Machine.execStaZp d s
  | .stxZp d => Sys2Proof.Machine.execStxZp d s
  | .unknown87 => Sys2Proof.Machine.execUnknown87 s
  | .dey => Sys2Proof.Machine.execDey s
  | .unknown89 => Sys2Proof.Machine.execUnknown89 s
  | .txa => Sys2Proof.Machine.execTxa s
  | .unknown8B => Sys2Proof.Machine.execUnknown8B s
  | .styAbs a => Sys2Proof.Machine.execStyAbs a s
  | .staAbs a => Sys2Proof.Machine.execStaAbs a s
  | .stxAbs a => Sys2Proof.Machine.execStxAbs a s
  | .unknown8F => Sys2Proof.Machine.execUnknown8F s
  | .bccRel d => Sys2Proof.Machine.execBccRel d s
  | .staIzy d => Sys2Proof.Machine.execStaIzy d s
  | .unknown92 => Sys2Proof.Machine.execUnknown92 s
  | .unknown93 => Sys2Proof.Machine.execUnknown93 s
  | .styZpx d => Sys2Proof.Machine.execStyZpx d s
  | .staZpx d => Sys2Proof.Machine.execStaZpx d s
  | .stxZpy d => Sys2Proof.Machine.execStxZpy d s
  | .unknown97 => Sys2Proof.Machine.execUnknown97 s
  | .tya => Sys2Proof.Machine.execTya s
  | .staAby a => Sys2Proof.Machine.execStaAby a s
  | .txs => Sys2Proof.Machine.execTxs s
  | .unknown9B => Sys2Proof.Machine.execUnknown9B s
  | .unknown9C => Sys2Proof.Machine.execUnknown9C s
  | .staAbx a => Sys2Proof.Machine.execStaAbx a s
  | .unknown9E => Sys2Proof.Machine.execUnknown9E s
  | .unknown9F => Sys2Proof.Machine.execUnknown9F s
  | .ldyImm d => Sys2Proof.Machine.execLdyImm d s
  | .ldaIzx d => Sys2Proof.Machine.execLdaIzx d s
  | .ldxImm d => Sys2Proof.Machine.execLdxImm d s
  | .unknownA3 => Sys2Proof.Machine.execUnknownA3 s
  | .ldyZp d => Sys2Proof.Machine.execLdyZp d s
  | .ldaZp d => Sys2Proof.Machine.execLdaZp d s
  | .ldxZp d => Sys2Proof.Machine.execLdxZp d s
  | .unknownA7 => Sys2Proof.Machine.execUnknownA7 s
  | .tay => Sys2Proof.Machine.execTay s
  | .ldaImm d => Sys2Proof.Machine.execLdaImm d s
  | .tax => Sys2Proof.Machine.execTax s
  | .unknownAB => Sys2Proof.Machine.execUnknownAB s
  | .ldyAbs a => Sys2Proof.Machine.execLdyAbs a s
  | .ldaAbs a => Sys2Proof.Machine.execLdaAbs a s
  | .ldxAbs a => Sys2Proof.Machine.execLdxAbs a s
  | .unknownAF => Sys2Proof.Machine.execUnknownAF s
  | .bcsRel d => Sys2Proof.Machine.execBcsRel d s
  | .ldaIzy d => Sys2Proof.Machine.execLdaIzy d s
  | .unknownB2 => Sys2Proof.Machine.execUnknownB2 s
  | .unknownB3 => Sys2Proof.Machine.execUnknownB3 s
  | .ldyZpx d => Sys2Proof.Machine.execLdyZpx d s
  | .ldaZpx d => Sys2Proof.Machine.execLdaZpx d s
  | .ldxZpy d => Sys2Proof.Machine.execLdxZpy d s
  | .unknownB7 => Sys2Proof.Machine.execUnknownB7 s
  | .clv => Sys2Proof.Machine.execClv s
  | .ldaAby a => Sys2Proof.Machine.execLdaAby a s
  | .tsx => Sys2Proof.Machine.execTsx s
  | .unknownBB => Sys2Proof.Machine.execUnknownBB s
  | .ldyAbx a => Sys2Proof.Machine.execLdyAbx a s
  | .ldaAbx a => Sys2Proof.Machine.execLdaAbx a s
  | .ldxAby a => Sys2Proof.Machine.execLdxAby a s
  | .unknownBF => Sys2Proof.Machine.execUnknownBF s
  | .cpyImm d => Sys2Proof.Machine.execCpyImm d s
  | .cmpIzx d => Sys2Proof.Machine.execCmpIzx d s
  | .unknownC2 => Sys2Proof.Machine.execUnknownC2 s
  | .unknownC3 => Sys2Proof.Machine.execUnknownC3 s
  | .cpyZp d => Sys2Proof.Machine.execCpyZp d s
  | .cmpZp d => Sys2Proof.Machine.execCmpZp d s
  | .decZp d => Sys2Proof.Machine.execDecZp d s
  | .unknownC7 => Sys2Proof.Machine.execUnknownC7 s
  | .iny => Sys2Proof.Machine.execIny s
  | .cmpImm d => Sys2Proof.Machine.execCmpImm d s
  | .dex => Sys2Proof.Machine.execDex s
  | .unknownCB => Sys2Proof.Machine.execUnknownCB s
  | .cpyAbs a => Sys2Proof.Machine.execCpyAbs a s
  | .cmpAbs a => Sys2Proof.Machine.execCmpAbs a s
  | .decAbs a => Sys2Proof.Machine.execDecAbs a s
  | .unknownCF => Sys2Proof.Machine.execUnknownCF s
  | .bneRel d => Sys2Proof.Machine.execBneRel d s
  | .cmpIzy d => Sys2Proof.Machine.execCmpIzy d s
  | .unknownD2 => Sys2Proof.Machine.execUnknownD2 s
  | .unknownD3 => Sys2Proof.Machine.execUnknownD3 s
  | .unknownD4 => Sys2Proof.Machine.execUnknownD4 s
  | .cmpZpx d => Sys2Proof.Machine.execCmpZpx d s
  | .decZpx d => Sys2Proof.Machine.execDecZpx d s
  | .unknownD7 => Sys2Proof.Machine.execUnknownD7 s
  | .cld => Sys2Proof.Machine.execCld s
  | .cmpAby a => Sys2Proof.Machine.execCmpAby a s
  | .unknownDA => Sys2Proof.Machine.execUnknownDA s
  | .unknownDB => Sys2Proof.Machine.execUnknownDB s
  | .unknownDC => Sys2Proof.Machine.execUnknownDC s
  | .cmpAbx a => Sys2Proof.Machine.execCmpAbx a s
  | .decAbx a => Sys2Proof.Machine.execDecAbx a s
  | .unknownDF => Sys2Proof.Machine.execUnknownDF s
  | .cpxImm d => Sys2Proof.Machine.execCpxImm d s
  | .sbcIzx d => Sys2Proof.Machine.execSbcIzx d s
  | .unknownE2 => Sys2Proof.Machine.execUnknownE2 s
  | .unknownE3 => Sys2Proof.Machine.execUnknownE3 s
  | .cpxZp d => Sys2Proof.Machine.execCpxZp d s
  | .sbcZp d => Sys2Proof.Machine.execSbcZp d s
  | .incZp d => Sys2Proof.Machine.execIncZp d s
  | .unknownE7 => Sys2Proof.Machine.execUnknownE7 s
  | .inx => Sys2Proof.Machine.execInx s
  | .sbcImm d => Sys2Proof.Machine.execSbcImm d s
  | .nop => Sys2Proof.Machine.execNop s
  | .unknownEB => Sys2Proof.Machine.execUnknownEB s
  | .cpxAbs a => Sys2Proof.Machine.execCpxAbs a s
  | .sbcAbs a => Sys2Proof.Machine.execSbcAbs a s
  | .incAbs a => Sys2Proof.Machine.execIncAbs a s
  | .unknownEF => Sys2Proof.Machine.execUnknownEF s
  | .beqRel d => Sys2Proof.Machine.execBeqRel d s
  | .sbcIzy d => Sys2Proof.Machine.execSbcIzy d s
  | .unknownF2 => Sys2Proof.Machine.execUnknownF2 s
  | .unknownF3 => Sys2Proof.Machine.execUnknownF3 s
  | .unknownF4 => Sys2Proof.Machine.execUnknownF4 s
  | .sbcZpx d => Sys2Proof.Machine.execSbcZpx d s
  | .incZpx d => Sys2Proof.Machine.execIncZpx d s
  | .unknownF7 => Sys2Proof.Machine.execUnknownF7 s
  | .sed => Sys2Proof.Machine.execSed s
  | .sbcAby a => Sys2Proof.Machine.execSbcAby a s
  | .unknownFA => Sys2Proof.Machine.execUnknownFA s
  | .unknownFB => Sys2Proof.Machine.execUnknownFB s
  | .unknownFC => Sys2Proof.Machine.execUnknownFC s
  | .sbcAbx a => Sys2Proof.Machine.execSbcAbx a s
  | .incAbx a => Sys2Proof.Machine.execIncAbx a s
  | .unknownFF => Sys2Proof.Machine.execUnknownFF s

end Sys2Proof.Machine
end

