-- ==== Sys2Proof/Machine/Audio.lean ====
section
/-! DEFINITION. The DMC's ticks and the frame sequencer's step (spec/62_apu.md rules R376, R388, R394, R395). The slice size
and the clock ratio are arguments, so that a statement can be made for every value of the two open parameters. -/

namespace Sys2Proof.Machine

/-- R388: the top of a tick. With no bits left the shift register is filled from the buffer, which is then refilled over the
bus, or the channel falls silent. -/
def dmcReload (s : State) : State :=
  let c := s.apu.dmc
  if c.bitsLeft = 0 then
    if c.bufferFull then
      dmcRefill { s with apu := { s.apu with dmc :=
        { c with bitsLeft := 8, shift := c.buffer, bufferFull := false, silence := false } } }
    else { s with apu := { s.apu with dmc := { c with bitsLeft := 8, silence := true } } }
  else s

/-- R388: `DmcTick()`. -/
def dmcTick (s : State) : State :=
  let s1 := dmcReload s
  { s1 with apu := { s1.apu with dmc := s1.apu.dmc.shiftOut } }

/-- R390: one sample's advance of the DMC timer. -/
def dmcAdvance (clocks : Rat) (s : State) : State :=
  let a := advancePhase clocks (dmcRate s.apu.dmc.rateIndex) s.apu.dmc.timerPhase
  Nat.iterate dmcTick a.1 { s with apu := { s.apu with dmc := { s.apu.dmc with timerPhase := a.2 } } }

/-- R394: `DmcOutput`; the sequencer's clocks do not concern this channel. -/
def dmcOutput (n : Nat) (clocks : Rat) (s : State) : List Nat × State :=
  sampleLoop (fun t => t.apu.dmc.level.toNat) (dmcAdvance clocks) n s

/-- R376: the samples of a slice, mixed. -/
def mixSlice (o1 o2 ot on od : List Nat) : List Byte :=
  (((o1.zip o2).zip (ot.zip on)).zip od).map (fun m => mix m.1.1.1 m.1.1.2 m.1.2.1 m.1.2.2 m.2)

/-- R376: the sequencer's move, and the frame interrupt at the wrap of the 4-step sequence. -/
def sequencerAdvance (s : State) : State :=
  let last := if s.apu.seqMode then 4 else 3
  if s.apu.seqIndex = last then
    let s1 := { s with apu := { s.apu with seqIndex := 0 } }
    if s.apu.seqMode = false ∧ s.apu.frameIrqInhibit = false then
      request .irq { s1 with apu := { s1.apu with frameIrq := true } }
    else s1
  else { s with apu := { s.apu with seqIndex := s.apu.seqIndex + 1 } }

/-- R376: `StepFrame()` with `n` samples to a slice and `clocks` CPU clocks to a sample. -/
def stepFrameWith (n : Nat) (clocks : Rat) (s : State) : State :=
  let c := sequencerClocks s.apu.seqMode s.apu.seqIndex
  let o1 := pulseOutput n clocks true c.2 c.1 s.apu.pulse1
  let o2 := pulseOutput n clocks false c.2 c.1 s.apu.pulse2
  let ot := triangleOutput n clocks c.2 c.1 s.apu.triangle
  let on := noiseOutput n clocks c.2 c.1 s.apu.noise
  let s1 := { s with apu := { s.apu with pulse1 := o1.2, pulse2 := o2.2, triangle := ot.2, noise := on.2 } }
  let od := dmcOutput n clocks s1
  let s2 := { od.2 with apu := { od.2.apu with audio := od.2.apu.audio ++ mixSlice o1.1 o2.1 ot.1 on.1 od.1 } }
  sequencerAdvance s2

/-- R376: `StepFrame()`. -/
def stepFrame (s : State) : State := stepFrameWith Config.samplesPerSlice Config.clocksPerSample s

end Sys2Proof.Machine
end

