-- ==== Sys2Proof/Machine/Cartridge.lean ====
section
/-! DEFINITION. Parsing a cartridge image and constructing the core from it (spec/63_bus_mapper.md rules R410 to R413,
spec/70_reset_and_hazards.md rule R481). -/

namespace Sys2Proof.Machine

/-- R411: why a load fails. -/
inductive LoadError where
  | badMagic
  | badMapper (id : Nat)
  | noPrg
  | shortFile
  deriving DecidableEq, Repr

/-- R413. -/
def headerMirroring (b6 : Byte) : Mirroring :=
  if b6.getLsbD 3 then .fourScreen else if b6.getLsbD 0 then .vertical else .horizontal

/-- R410: header bytes 4 to 7 and the bytes after the header, already known to have the magic. -/
def parseBody (image : List Byte) (b4 b5 b6 b7 : Byte) : Except LoadError Cart :=
  let mapperId := (b6.extractLsb' 4 4).toNat + 16 * (b7.extractLsb' 4 4).toNat
  let o := 16 + (if b6.getLsbD 2 then 512 else 0)
  let nPrg := 16384 * b4.toNat
  let nChr := 8192 * b5.toNat
  if Config.mapperIds.contains mapperId = false then .error (.badMapper mapperId)
  else if b4 = 0 then .error .noPrg
  else if image.length < o + nPrg + nChr then .error .shortFile
  else .ok {
    prgBanks := b4.toNat, chrBanks := b5.toNat, mapperId := mapperId,
    defaultMirroring := headerMirroring b6,
    battery := b6.getLsbD 1, trainer := b6.getLsbD 2,
    prg := Sparse.ofList 0 0 ((image.drop o).take nPrg),
    chr := Sparse.ofList 0 0 ((image.drop (o + nPrg)).take nChr),
    identity := image }

/-- R410, R411: parse an image. -/
def parseImage (image : List Byte) : Except LoadError Cart :=
  match image with
  | 0x4E#8 :: 0x45#8 :: 0x53#8 :: 0x1A#8 :: b4 :: b5 :: b6 :: b7 ::
      _ :: _ :: _ :: _ :: _ :: _ :: _ :: _ :: _ => parseBody image b4 b5 b6 b7
  | _ => .error .badMagic

/-- R460, R470: a buffer of exactly 8192 bytes, cut or zero-padded. -/
def saveBuffer (bytes : List Byte) : Memory := Sparse.ofList 0 0 (bytes.take 8192)

/-- R53, R453: the power-on column, for everything but `param`, the cartridge, what crosses the host's boundary and the sticky
mark (log entry 24); the CPU registers are left to `DoReset`. -/
def powerOnState (s : State) : State :=
  { s with
    wram := [], saveRam := [], saveDirty := 0,
    busMap := BusMap.fixedWindows s.cart.battery,
    mapper := .powerOn,
    ppu := .powerOn s.cart.defaultMirroring,
    apu := .powerOn,
    pads := .powerOn,
    orch := { Orchestrator.powerOn with param := s.orch.param, phase := s.orch.phase, skipping := s.orch.skipping } }

/-- R470: `SaveRAM <- load(key, 8192)`, when the cartridge has a battery; a failure gives zeros and is logged. -/
def loadSave (s : State) : State :=
  if s.cart.battery then
    match s.io.storage with
    | some bytes => { s with saveRam := saveBuffer bytes }
    | none => logMsg .storageFailure { s with saveRam := [] }
  else s

/-- R453: `Init(kind)`. -/
def initCore (kind : InitKind) (s : State) : State :=
  let s1 := match kind with
    | .power => loadSave (powerOnState s)
    | .reset => s
  let s2 := doReset (mapperInit kind s1.orch.param s1)
  { s2 with orch := { s2.orch with needInit := false } }

/-- R481: the core constructed from a cartridge, before its first request: the power-on column of R53, with the banks installed
so that the vectors can be read, and `needInit` set. -/
def construct (c : Cart) : State :=
  let s := doReset (mapperInit .power none (powerOnState { State.reset with cart := c }))
  { s with orch := { s.orch with needInit := true } }

end Sys2Proof.Machine
end

