-- ==== Sys2Proof/Machine/Orchestrator.lean ====
section
/-! DEFINITION. The frame orchestrator (spec/64_orchestrator.md): requests, the top and the end of a line, the end of a frame, the
save flush. The CPU's share of a line, which calls `exec`, is in Machine/Run.lean. -/

namespace Sys2Proof.Machine

/-- Send a response to the host. -/
def respond (r : Response) (s : State) : State := { s with io := { s.io with outbox := s.io.outbox ++ [r] } }

/-- R451: the empty response. -/
def emptyResponse : Response := { pixels := none, audio := none }

/-- R470: `save(key, SaveRAM)`. -/
def saveNow (s : State) : State :=
  { s with io := { s.io with saves := s.io.saves ++ [{ key := s.cart.identity, bytes := s.saveRam }] } }

/-! ## Requests (R451 to R461, R466) -/

/-- R461: a pad without a mask keeps its buttons. -/
def setButtons (pad1 pad2 : Option Byte) (s : State) : State :=
  { s with pads := { s.pads with buttons1 := pad1.getD s.pads.buttons1, buttons2 := pad2.getD s.pads.buttons2 } }

/-- R453: run `Init` when it is due. -/
def initIfNeeded (s : State) : State := if s.orch.needInit then initCore s.orch.initKind s else s

/-- R455: the start of a frame: `Init` if due, the request's buttons (log entry 7), an empty audio buffer, line 0. -/
def startFrame (skipping : Bool) (pad1 pad2 : Option Byte) (s : State) : State :=
  let s1 := setButtons pad1 pad2 (initIfNeeded s)
  { s1 with apu := { s1.apu with audio := [] },
            orch := { s1.orch with line := 0, phase := .lineStart, skipping := skipping } }

/-- R456: an honoured skip-frame counts. -/
def countSkip (s : State) : State := { s with orch := { s.orch with skipRun := s.orch.skipRun + 1 } }

/-- R460: `SaveRAM <- payload`, only with a battery. -/
def storeResponse (payload : List Byte) (s : State) : State :=
  if s.cart.battery then { s with saveRam := saveBuffer payload } else s

/-- R451: the effect of one request on a core that is not halted. -/
def handleRequest (r : Request) (s : State) : State :=
  match r with
  | .frame pad1 pad2 => startFrame false pad1 pad2 s
  | .skipFrame pad1 pad2 =>
    if s.orch.skipRun = Config.skipCap then respond emptyResponse s
    else countSkip (startFrame true pad1 pad2 s)
  | .reset => respond emptyResponse { s with orch := { s.orch with needInit := true, initKind := .reset } }
  | .shutdown =>
    let s1 := if s.cart.battery then saveNow s else s
    respond emptyResponse { s1 with orch := { s1.orch with halted := true } }
  | .setParameter payload => respond emptyResponse { s with orch := { s.orch with param := payload } }
  | .storageResponse payload => respond emptyResponse (storeResponse payload s)

/-- R450, R466: between requests. The next request, if the host has one, is taken; a halted core ignores it. -/
def idleStep (s : State) : State :=
  match s.io.inbox with
  | [] => s
  | r :: rest =>
    let s1 := { s with io := { s.io with inbox := rest } }
    if s.orch.halted then respond emptyResponse s1 else handleRequest r s1

/-! ## A line (R455) -/

/-- R311: `PreRender(n)`. -/
def preRender (n : Nat) (s : State) : State :=
  let s1 := { s with ppu := s.ppu.preRender n }
  if n = 241 ∧ s.ppu.ppuCtrl.getLsbD 7 = true then request .nmi s1 else s1

/-- R315: `RenderLine(n)`. -/
def renderLine (n : Nat) (s : State) : State := { s with ppu := s.ppu.renderLine s.orch.skipping n }

/-- R455: everything of line n that comes before `Execute(n)`. -/
def lineTop (s : State) : State :=
  let n := s.orch.line
  let s1 := if n = 241 then hookVBlank s else s
  let s2 := hookHBlank n (renderLine n (hookPreScanLine n (preRender n s1)))
  { s2 with orch := { s2.orch with phase := .cpu } }

/-- R377: the lines after which the sequencer steps. -/
def sequencerLines : List Nat := [0, 66, 131, 197]

/-- R465: the counters of the flush policy, before the save is decided. -/
def flushCounters (s : State) : State :=
  if s.saveDirty ≠ s.orch.lastDirty then
    { s with orch := { s.orch with lastDirty := s.saveDirty, flushIdle := 0, flushBusy := s.orch.flushBusy + 1 } }
  else if 0 < s.orch.flushBusy then
    { s with orch := { s.orch with flushIdle := s.orch.flushIdle + 1, flushBusy := s.orch.flushBusy + 1 } }
  else s

/-- R465: `EndOfFrameFlush()`. -/
def endOfFrameFlush (s : State) : State :=
  if s.cart.battery then
    let s1 := flushCounters s
    if 0 < s1.orch.flushBusy ∧
        (Config.flushIdleFrames ≤ s1.orch.flushIdle ∨ Config.flushForceFrames ≤ s1.orch.flushBusy) then
      let s2 := saveNow s1
      { s2 with orch := { s2.orch with flushIdle := 0, flushBusy := 0 } }
    else s1
  else s

/-- R455, R456, R49: the end of a frame: the flush, the skip count, the response, an empty audio buffer. -/
def endFrame (s : State) : State :=
  let s1 := endOfFrameFlush { s with orch := { s.orch with line := 0 } }
  let skip := s1.orch.skipping
  let s2 := respond { pixels := if skip then none else some s1.ppu.frame, audio := some s1.apu.audio } s1
  { s2 with apu := { s2.apu with audio := [] },
            orch := { s2.orch with skipRun := if skip then s2.orch.skipRun else 0, phase := .idle, skipping := false } }

/-- R458: the budget taken from the counter at the end of `Execute`. -/
def spendBudget (s : State) : State := { s with cyc := s.cyc - Config.lineBudget }

/-- R455: everything of line n that comes after the CPU's last instruction of it. -/
def lineEnd (s : State) : State :=
  let n := s.orch.line
  let s1 := spendBudget s
  let s2 := if sequencerLines.contains n then stepFrame s1 else s1
  if n + 1 < Config.linesPerFrame then { s2 with orch := { s2.orch with line := n + 1, phase := .lineStart } }
  else endFrame s2

end Sys2Proof.Machine
end

