-- ==== Sys2Proof/Machine/Run.lean ====
section
/-! DEFINITION. One step of the machine: an iteration of the CPU's loop (R458, R132), or one of the orchestrator's moves
(log entry 3); and placing an instruction where the next step fetches it. `Machine/Step.lean` only calls these. -/

namespace Sys2Proof.Machine

/-- R132, R110: fetch one instruction's bytes over the bus, the opcode first, and decode it; `pc` ends past the instruction. -/
def fetchInstr (s : State) : Instr × State :=
  let op := fetch8 s
  match lengthOf op.1 with
  | 2 =>
    let d := fetch8 op.2
    (decodeOp op.1 d.1 0, d.2)
  | 3 =>
    let lo := fetch8 op.2
    let hi := fetch8 lo.2
    (decodeOp op.1 0 (word hi.1 lo.1), hi.2)
  | _ => (decodeOp op.1 0 0, op.2)

/-- R132: `Step()`. -/
def cpuStep (s : State) : Result :=
  let r := fetchInstr s
  exec r.1 r.2

/-- R458: one iteration of the execute loop, the check and one instruction (D27); or, the budget being spent, the end of the line. -/
def cpuPhase (s : State) : Result :=
  if s.cyc < Config.lineBudget then cpuStep (servicePending s) else .next (lineEnd s)

/-- One step of the machine. -/
def machineStep (s : State) : Result :=
  match s.orch.phase with
  | .idle => .next (idleStep s)
  | .lineStart => .next (lineTop s)
  | .cpu => cpuPhase s

/-! ## Placing an instruction -/

/-- Is the byte that the CPU reads at `addr` held in a memory? -/
def storable (s : State) (addr : Addr) : Bool :=
  match (BusMap.lookup s.busMap addr.toNat).1 with
  | .wram => true
  | .saveRam => true
  | .prg _ => true
  | _ => false

/-- Put `b` where the CPU reads address `addr` from. -/
def place (addr : Addr) (b : Byte) (s : State) : State :=
  let r := BusMap.lookup s.busMap addr.toNat
  match r.1 with
  | .wram => { s with wram := Memory.write s.wram (r.2 % 2048) b }
  | .saveRam => { s with saveRam := Memory.write s.saveRam (r.2 % 8192) b }
  | .prg base => { s with cart := { s.cart with prg := Memory.write s.cart.prg (base + r.2) b } }
  | _ => s

/-- A state whose PC does not point into a memory gets PC 0x0200, in work RAM. -/
def storablePc (s : State) : State :=
  if storable s s.pc && storable s (s.pc + 1) && storable s (s.pc + 2) then s
  else { s with pc := 0x0200, busMap := BusMap.mapRange .wram 0x0000 0x1FFF s.busMap }

/-- The machine about to run the instruction at its PC: inside `Execute` of the current line, with budget left, and with no
interrupt that the check would take first. -/
def readyToFetch (s : State) : State :=
  { s with orch := { s.orch with phase := .cpu },
           cyc := if s.cyc < Config.lineBudget then s.cyc else 0,
           pending := if interruptDue s then .none else s.pending }

/-- The word's three bytes placed at the PC, and the machine ready to fetch them. -/
def placeWord (nbits w : Nat) (s : State) : State :=
  let v := w % 2 ^ nbits
  let s1 := readyToFetch (storablePc s)
  place (s1.pc + 2) (BitVec.ofNat 8 (v / 65536))
    (place (s1.pc + 1) (BitVec.ofNat 8 (v / 256)) (place s1.pc (BitVec.ofNat 8 v) s1))

end Sys2Proof.Machine
end

