-- ==== Sys2Proof/Machine/Step.lean ====
section
/-! DEFINITION. The step of the machine, and the placing of an instruction word where it fetches its next instruction. -/

namespace Sys2Proof.Machine

/-- One step (Machine/Run.lean, `machineStep`). -/
def step (s : State) : Host.Outcome State Fault Refusal := machineStep s

/-- `s` with the instruction word stored at its PC and the machine inside `Execute` with budget left, so that the next step
fetches and runs exactly that instruction (log entry 12). -/
def State.withFetchWord (s : State) (nbits w : Nat) : State := placeWord nbits w s

end Sys2Proof.Machine
end

