-- ==== Sys2Proof/Safety.lean ====
section
/-! DEFINITION. The states that a run can reach, as an invariant: what spec/10_state.md says always holds of the flag byte, the bus
table, the memories and the counters. Claims that are false only in states no run reaches take `State.Inv` as a premise. -/

namespace Sys2Proof.Machine

/-- R24: bit 5 of the flag byte is 1 and bit 4 is 0. -/
def flagsOk (p : Byte) : Bool := p.getLsbD 5 && !p.getLsbD 4

/-- R410, R411: what a loaded cartridge has. -/
structure Cart.Ok (c : Cart) : Prop where
  prgBanks : 0 < c.prgBanks
  mapperId : Config.mapperIds.contains c.mapperId = true
  prg : Memory.wf (16384 * c.prgBanks) c.prg = true
  chr : Memory.wf (8192 * c.chrBanks) c.chr = true

/-- R73: below 0x8000 every address belongs to the fixed window that the table gives. -/
def BusMap.WindowsOk (battery : Bool) (m : List BusRange) : Prop :=
  ∀ a, a < 0x8000 → BusMap.lookup m a = BusMap.lookup (BusMap.fixedWindows battery) a

/-- R79, R415, R423: from 0x8000 up, two 16 KiB windows, each showing a PRG bank that the cartridge has. -/
def BusMap.PrgOk (banks : Nat) (m : List BusRange) : Prop :=
  ∃ lo hi, lo < banks ∧ hi < banks ∧
    (∀ a, 0x8000 ≤ a → a ≤ 0xBFFF → BusMap.lookup m a = (.prg (16384 * lo), a - 0x8000)) ∧
    (∀ a, 0xC000 ≤ a → a ≤ 0xFFFF → BusMap.lookup m a = (.prg (16384 * hi), a - 0xC000))

/-- R28, R73, R79: the bus table. -/
structure BusMap.Ok (c : Cart) (m : List BusRange) : Prop where
  partition : BusMap.partition m = true
  windows : BusMap.WindowsOk c.battery m
  prg : BusMap.PrgOk c.prgBanks m

/-- R34 to R37, R41, R42: the PPU's memories, each of its size and in canonical form. -/
structure Ppu.Ok (p : Ppu) : Prop where
  pattern : Memory.wf 8192 p.pattern = true
  nt : Memory.wf 4096 p.nt = true
  palette : Sparse.wf 0 32 p.palette = true
  oam : Memory.wf 256 p.oam = true
  spriteLine : Sparse.wf none 256 p.spriteLine = true
  frame : Sparse.wf 0 57344 p.frame = true

/-- R43 to R46: a timer's phase is a fraction of one step. -/
def phaseOk (r : Rat) : Prop := 0 ≤ r ∧ r < 1

/-- R43 to R47: the phases, the sequencer index and the DMC's bit count stay in their ranges. -/
structure Apu.Ok (a : Apu) : Prop where
  pulse1 : phaseOk a.pulse1.timerPhase
  pulse2 : phaseOk a.pulse2.timerPhase
  triangle : phaseOk a.triangle.timerPhase
  noise : phaseOk a.noise.timerPhase
  dmc : phaseOk a.dmc.timerPhase
  bitsLeft : a.dmc.bitsLeft.toNat ≤ 8
  seqIndex : a.seqIndex ≤ if a.seqMode then 4 else 3

/-- R52: the line and the skip count stay in their ranges. -/
structure Orchestrator.Ok (o : Orchestrator) : Prop where
  line : o.line < Config.linesPerFrame
  skipRun : o.skipRun ≤ Config.skipCap

/-- What holds in every state that a run reaches. -/
structure State.Inv (s : State) : Prop where
  flags : flagsOk s.p = true
  cart : s.cart.Ok
  bus : BusMap.Ok s.cart s.busMap
  wram : Memory.wf 2048 s.wram = true
  saveRam : Memory.wf 8192 s.saveRam = true
  mmcCount : s.mapper.mmcCount < 5
  ppu : s.ppu.Ok
  apu : s.apu.Ok
  orch : s.orch.Ok

end Sys2Proof.Machine
end

