-- ==== Sys2Proof/WellFormed.lean ====
section
/-! DEFINITION. Well-formedness. An operand of `Instr` has the width of its encoding and every one of its bits is used (R129), so
every instruction is well formed; what can be ill formed is a byte string that is meant to be one instruction (R110, R111). -/

namespace Sys2Proof

/-- R129: no field of a defined instruction is reserved, and an operand's type has exactly the operand's width. -/
def Instr.wellFormed (_ : Instr) : Bool := true

/-- R110, R111: the bytes of exactly one instruction: there is an opcode byte, and as many bytes as its format has. -/
def wellFormedBytes : List Byte → Bool
  | [] => false
  | op :: rest => decide (rest.length + 1 = lengthOf op)

end Sys2Proof
end

