-- ==== Sys2Proof/Certificates/Slice0/Obligations.lean ====
section
/-! DEFINITION. The statements for the provers, with the vocabulary they are written in. The vocabulary follows the rules' own
arithmetic on numbers (`mod 256`, `mod 65536`), not the machine's bit vectors. In the statements about one instruction, `s` is the state
after the instruction's own bytes have been fetched, so `s.pc` is the address of the next instruction (log entry 15). A base cycle count is
the one that the instruction's rule states; R6 makes `CycleTable` and `PagePenalty` parameters, which the model fixes at those counts
(log entry 5). -/

namespace Sys2Proof.Spec

open Machine

/-! ## Vocabulary: addresses and operands -/

/-- A number as an address, modulo 65536 (R83). -/
def adr (n : Nat) : Addr := BitVec.ofNat 16 n

/-- A number as a byte, modulo 256. -/
def byte (n : Nat) : Byte := BitVec.ofNat 8 n

/-- The memory operand modes with their operand bytes (R116 to R123). -/
inductive Mode where
  | zp (d : Byte) | zpx (d : Byte) | zpy (d : Byte) | abs (a : Addr) | abx (a : Addr) | aby (a : Addr)
  | izx (d : Byte) | izy (d : Byte)
  deriving DecidableEq, Repr

/-- Where an operand is: its address as a number, whether indexing crossed a page, and the state after the pointer reads. -/
structure Target where
  addr    : Nat
  crossed : Bool
  st      : State

/-- R14: the little-endian word at zero-page address `z`, its second byte's address wrapping in the zero page. -/
def pointer (z : Nat) (s : State) : Nat × State :=
  let lo := memRead (adr (z % 256)) s
  let hi := memRead (adr ((z + 1) % 256)) lo.2
  (256 * hi.1.toNat + lo.1.toNat, hi.2)

/-- R120, R121, R123: `base + i` modulo 65536; crossed when the page of the sum is not the page of the base. -/
def indexedTarget (base i : Nat) (s : State) : Target where
  addr := (base + i) % 65536
  crossed := decide ((base + i) % 65536 / 256 ≠ base / 256)
  st := s

/-- R116 to R123: the effective address of each mode. -/
def Mode.target (m : Mode) (s : State) : Target :=
  match m with
  | .zp d => ⟨d.toNat, false, s⟩
  | .zpx d => ⟨(d.toNat + s.x.toNat) % 256, false, s⟩
  | .zpy d => ⟨(d.toNat + s.y.toNat) % 256, false, s⟩
  | .abs a => ⟨a.toNat, false, s⟩
  | .abx a => indexedTarget a.toNat s.x.toNat s
  | .aby a => indexedTarget a.toNat s.y.toNat s
  | .izx d =>
    let p := pointer ((d.toNat + s.x.toNat) % 256) s
    ⟨p.1, false, p.2⟩
  | .izy d =>
    let p := pointer d.toNat s
    indexedTarget p.1 s.y.toNat p.2

/-- R111, R112: the operand bytes of each mode, the low byte of an address first. -/
def Mode.bytes (m : Mode) : List Byte :=
  match m with
  | .zp d | .zpx d | .zpy d | .izx d | .izy d => [d]
  | .abs a | .abx a | .aby a => [byte (a.toNat % 256), byte (a.toNat / 256)]

/-- An operand that is read: an immediate byte (R115) or a memory operand. -/
inductive Src where
  | imm (d : Byte)
  | mem (m : Mode)
  deriving DecidableEq, Repr

def Src.bytes (o : Src) : List Byte :=
  match o with
  | .imm d => [d]
  | .mem m => m.bytes

/-- A read operand: its byte, whether indexing crossed a page, and the state after every bus read it takes. -/
structure Operand where
  val     : Byte
  crossed : Bool
  st      : State

/-- R17: the operand, read exactly once. -/
def Src.read (o : Src) (s : State) : Operand :=
  match o with
  | .imm d => ⟨d, false, s⟩
  | .mem m =>
    let t := m.target s
    let r := memRead (adr t.addr) t.st
    ⟨r.1, t.crossed, r.2⟩

/-- The extra cycle of R496 (a). -/
def penalty (crossed : Bool) : Nat := if crossed then 1 else 0

/-- An instruction that reads an operand: its opcode byte, the instruction, the operand, the base cycles of R495. -/
structure Form where
  op     : Nat
  instr  : Instr
  src    : Src
  cycles : Nat

/-- An instruction with a memory operand that it writes. -/
structure MForm where
  op     : Nat
  instr  : Instr
  mode   : Mode
  cycles : Nat

/-- R110 to R112: the instruction's bytes are the opcode byte and the operand's bytes. -/
def Form.Encoded (f : Form) : Prop := encode f.instr = byte f.op :: f.src.bytes
def MForm.Encoded (f : MForm) : Prop := encode f.instr = byte f.op :: f.mode.bytes

/-- The eight forms of LDA, AND, ORA, EOR, ADC, SBC, CMP, with their cycles: imm, zp, zpx, abs, abx, aby, izx, izy; `ops` holds their
opcode bytes in that order. -/
def eightForms (ops : Fin 8 → Nat) (imm zp zpx : Byte → Instr) (ab abx aby : Addr → Instr) (izx izy : Byte → Instr)
    (d : Byte) (a : Addr) : List Form :=
  [⟨ops 0, imm d, .imm d, 2⟩, ⟨ops 1, zp d, .mem (.zp d), 3⟩, ⟨ops 2, zpx d, .mem (.zpx d), 4⟩,
   ⟨ops 3, ab a, .mem (.abs a), 4⟩, ⟨ops 4, abx a, .mem (.abx a), 4⟩, ⟨ops 5, aby a, .mem (.aby a), 4⟩,
   ⟨ops 6, izx d, .mem (.izx d), 6⟩, ⟨ops 7, izy d, .mem (.izy d), 5⟩]

def ldaForms := eightForms ![0xA9, 0xA5, 0xB5, 0xAD, 0xBD, 0xB9, 0xA1, 0xB1]
  .ldaImm .ldaZp .ldaZpx .ldaAbs .ldaAbx .ldaAby .ldaIzx .ldaIzy
def andForms := eightForms ![0x29, 0x25, 0x35, 0x2D, 0x3D, 0x39, 0x21, 0x31]
  .andImm .andZp .andZpx .andAbs .andAbx .andAby .andIzx .andIzy
def oraForms := eightForms ![0x09, 0x05, 0x15, 0x0D, 0x1D, 0x19, 0x01, 0x11]
  .oraImm .oraZp .oraZpx .oraAbs .oraAbx .oraAby .oraIzx .oraIzy
def eorForms := eightForms ![0x49, 0x45, 0x55, 0x4D, 0x5D, 0x59, 0x41, 0x51]
  .eorImm .eorZp .eorZpx .eorAbs .eorAbx .eorAby .eorIzx .eorIzy
def adcForms := eightForms ![0x69, 0x65, 0x75, 0x6D, 0x7D, 0x79, 0x61, 0x71]
  .adcImm .adcZp .adcZpx .adcAbs .adcAbx .adcAby .adcIzx .adcIzy
def sbcForms := eightForms ![0xE9, 0xE5, 0xF5, 0xED, 0xFD, 0xF9, 0xE1, 0xF1]
  .sbcImm .sbcZp .sbcZpx .sbcAbs .sbcAbx .sbcAby .sbcIzx .sbcIzy
def cmpForms := eightForms ![0xC9, 0xC5, 0xD5, 0xCD, 0xDD, 0xD9, 0xC1, 0xD1]
  .cmpImm .cmpZp .cmpZpx .cmpAbs .cmpAbx .cmpAby .cmpIzx .cmpIzy

/-- The five forms of LDX (R141). -/
def ldxForms (d : Byte) (a : Addr) : List Form :=
  [⟨0xA2, .ldxImm d, .imm d, 2⟩, ⟨0xA6, .ldxZp d, .mem (.zp d), 3⟩, ⟨0xB6, .ldxZpy d, .mem (.zpy d), 4⟩,
   ⟨0xAE, .ldxAbs a, .mem (.abs a), 4⟩, ⟨0xBE, .ldxAby a, .mem (.aby a), 4⟩]

/-- The five forms of LDY (R142). -/
def ldyForms (d : Byte) (a : Addr) : List Form :=
  [⟨0xA0, .ldyImm d, .imm d, 2⟩, ⟨0xA4, .ldyZp d, .mem (.zp d), 3⟩, ⟨0xB4, .ldyZpx d, .mem (.zpx d), 4⟩,
   ⟨0xAC, .ldyAbs a, .mem (.abs a), 4⟩, ⟨0xBC, .ldyAbx a, .mem (.abx a), 4⟩]

/-- The three forms of CPX (R166) and of CPY (R167). -/
def cpxForms (d : Byte) (a : Addr) : List Form :=
  [⟨0xE0, .cpxImm d, .imm d, 2⟩, ⟨0xE4, .cpxZp d, .mem (.zp d), 3⟩, ⟨0xEC, .cpxAbs a, .mem (.abs a), 4⟩]
def cpyForms (d : Byte) (a : Addr) : List Form :=
  [⟨0xC0, .cpyImm d, .imm d, 2⟩, ⟨0xC4, .cpyZp d, .mem (.zp d), 3⟩, ⟨0xCC, .cpyAbs a, .mem (.abs a), 4⟩]

/-- The two forms of BIT (R168). -/
def bitForms (d : Byte) (a : Addr) : List Form :=
  [⟨0x24, .bitZp d, .mem (.zp d), 3⟩, ⟨0x2C, .bitAbs a, .mem (.abs a), 4⟩]

/-- The forms of STA (R143), STX (R144), STY (R145). -/
def staForms (d : Byte) (a : Addr) : List MForm :=
  [⟨0x85, .staZp d, .zp d, 3⟩, ⟨0x95, .staZpx d, .zpx d, 4⟩, ⟨0x8D, .staAbs a, .abs a, 4⟩, ⟨0x9D, .staAbx a, .abx a, 5⟩,
   ⟨0x99, .staAby a, .aby a, 5⟩, ⟨0x81, .staIzx d, .izx d, 6⟩, ⟨0x91, .staIzy d, .izy d, 6⟩]
def stxForms (d : Byte) (a : Addr) : List MForm :=
  [⟨0x86, .stxZp d, .zp d, 3⟩, ⟨0x96, .stxZpy d, .zpy d, 4⟩, ⟨0x8E, .stxAbs a, .abs a, 4⟩]
def styForms (d : Byte) (a : Addr) : List MForm :=
  [⟨0x84, .styZp d, .zp d, 3⟩, ⟨0x94, .styZpx d, .zpx d, 4⟩, ⟨0x8C, .styAbs a, .abs a, 4⟩]

/-- The four memory forms of a read-modify-write instruction, with their cycles: zp, zpx, abs, abx. -/
def fourForms (ops : Fin 4 → Nat) (zp zpx : Byte → Instr) (ab abx : Addr → Instr) (d : Byte) (a : Addr) : List MForm :=
  [⟨ops 0, zp d, .zp d, 5⟩, ⟨ops 1, zpx d, .zpx d, 6⟩, ⟨ops 2, ab a, .abs a, 6⟩, ⟨ops 3, abx a, .abx a, 7⟩]

def incForms := fourForms ![0xE6, 0xF6, 0xEE, 0xFE] .incZp .incZpx .incAbs .incAbx
def decForms := fourForms ![0xC6, 0xD6, 0xCE, 0xDE] .decZp .decZpx .decAbs .decAbx
def aslForms := fourForms ![0x06, 0x16, 0x0E, 0x1E] .aslZp .aslZpx .aslAbs .aslAbx
def lsrForms := fourForms ![0x46, 0x56, 0x4E, 0x5E] .lsrZp .lsrZpx .lsrAbs .lsrAbx
def rolForms := fourForms ![0x26, 0x36, 0x2E, 0x3E] .rolZp .rolZpx .rolAbs .rolAbx
def rorForms := fourForms ![0x66, 0x76, 0x6E, 0x7E] .rorZp .rorZpx .rorAbs .rorAbx

/-! ## Vocabulary: flags -/

/-- `q` is the flag byte `p` with exactly the bits that `f` names written; every other bit is `p`'s. -/
def Flags (p q : Byte) (f : Nat → Option Bool) : Prop := ∀ i, i < 8 → q.getLsbD i = (f i).getD (p.getLsbD i)

/-- R13: Z and N of an 8-bit result given as a number. -/
def nz (r : Nat) : Nat → Option Bool
  | 1 => some (decide (r = 0))
  | 7 => some (decide (128 ≤ r))
  | _ => none

/-- Z and N of a result, and C. -/
def nzc (r : Nat) (c : Bool) : Nat → Option Bool
  | 0 => some c
  | i => nz r i

/-- Z and N of a result, C and V. -/
def nvzc (r : Nat) (v c : Bool) : Nat → Option Bool
  | 6 => some v
  | i => nzc r c i

/-- One flag. -/
def oneFlag (i : Nat) (b : Bool) : Nat → Option Bool := fun j => if j = i then some b else none

/-- Every flag but bits 4 and 5 from `v`; bit 5 is 1 and bit 4 is 0 (R223). -/
def pulledFlags (v : Byte) : Nat → Option Bool
  | 4 => some false
  | 5 => some true
  | i => some (v.getLsbD i)

/-- The carry as a number. -/
def carry (p : Byte) : Nat := if p.getLsbD 0 then 1 else 0

/-- Does the byte have its sign bit set? -/
def negative (b : Byte) : Bool := decide (128 ≤ b.toNat)

/-! ## Vocabulary: the stack -/

/-- R12: `Push(v)`. -/
def pushed (v : Byte) (s : State) : State :=
  let t := memWrite (adr (256 + s.sp.toNat)) v s
  { t with sp := byte (s.sp.toNat + 255) }

/-- R12: `Pull()`. -/
def pulled (s : State) : Byte × State :=
  memRead (adr (256 + (s.sp.toNat + 1) % 256)) { s with sp := byte (s.sp.toNat + 1) }

/-- The high and the low byte of an address. -/
def high (a : Addr) : Byte := byte (a.toNat / 256)
def low (a : Addr) : Byte := byte (a.toNat % 256)

end Sys2Proof.Spec

open Sys2Proof Sys2Proof.Machine Sys2Proof.Spec

/-! ## Load, store, transfer (spec/40_load_store_transfer.md) -/

/-- R140 to R142, every form of each. The register is the operand, N and Z follow it, nothing else is written but the cycles and what the
bus reads change. -/
def Obligations.LoadResult : Prop :=
  ∀ (d : Byte) (a : Addr) (s : State),
    (∀ f ∈ ldaForms d a, ∃ q, f.Encoded ∧ Flags s.p q (nz (f.src.read s).val.toNat) ∧
      exec f.instr s = .next { (f.src.read s).st with
        a := (f.src.read s).val, p := q, cyc := s.cyc + f.cycles + penalty (f.src.read s).crossed }) ∧
    (∀ f ∈ ldxForms d a, ∃ q, f.Encoded ∧ Flags s.p q (nz (f.src.read s).val.toNat) ∧
      exec f.instr s = .next { (f.src.read s).st with
        x := (f.src.read s).val, p := q, cyc := s.cyc + f.cycles + penalty (f.src.read s).crossed }) ∧
    (∀ f ∈ ldyForms d a, ∃ q, f.Encoded ∧ Flags s.p q (nz (f.src.read s).val.toNat) ∧
      exec f.instr s = .next { (f.src.read s).st with
        y := (f.src.read s).val, p := q, cyc := s.cyc + f.cycles + penalty (f.src.read s).crossed })

/-- R143 to R145, all thirteen forms: one write of the register at the effective address; no flag, no penalty. -/
def Obligations.StoreResult : Prop :=
  ∀ (d : Byte) (a : Addr) (s : State),
    (∀ f ∈ staForms d a, f.Encoded ∧ exec f.instr s =
      .next (addCycles f.cycles (memWrite (adr (f.mode.target s).addr) s.a (f.mode.target s).st))) ∧
    (∀ f ∈ stxForms d a, f.Encoded ∧ exec f.instr s =
      .next (addCycles f.cycles (memWrite (adr (f.mode.target s).addr) s.x (f.mode.target s).st))) ∧
    (∀ f ∈ styForms d a, f.Encoded ∧ exec f.instr s =
      .next (addCycles f.cycles (memWrite (adr (f.mode.target s).addr) s.y (f.mode.target s).st)))

/-- R146 to R151. -/
def Obligations.TransferResult : Prop :=
  ∀ s : State,
    (∃ q, encode .tax = [0xAA] ∧ Flags s.p q (nz s.a.toNat) ∧ exec .tax s = .next { s with x := s.a, p := q, cyc := s.cyc + 2 }) ∧
    (∃ q, encode .tay = [0xA8] ∧ Flags s.p q (nz s.a.toNat) ∧ exec .tay s = .next { s with y := s.a, p := q, cyc := s.cyc + 2 }) ∧
    (∃ q, encode .txa = [0x8A] ∧ Flags s.p q (nz s.x.toNat) ∧ exec .txa s = .next { s with a := s.x, p := q, cyc := s.cyc + 2 }) ∧
    (∃ q, encode .tya = [0x98] ∧ Flags s.p q (nz s.y.toNat) ∧ exec .tya s = .next { s with a := s.y, p := q, cyc := s.cyc + 2 }) ∧
    (∃ q, encode .tsx = [0xBA] ∧ Flags s.p q (nz s.sp.toNat) ∧ exec .tsx s = .next { s with x := s.sp, p := q, cyc := s.cyc + 2 }) ∧
    encode .txs = [0x9A] ∧ exec .txs s = .next { s with sp := s.x, cyc := s.cyc + 2 }

/-! ## Arithmetic and logic (spec/41_arithmetic_logic.md) -/

/-- R160, all eight forms: the exact sum gives the result and the carry; V when A and M have the same sign and the result has
the other one. -/
def Obligations.AdcResult : Prop :=
  ∀ (d : Byte) (a : Addr) (s : State), ∀ f ∈ adcForms d a, ∃ q,
    let o := f.src.read s
    let sum := s.a.toNat + o.val.toNat + carry s.p
    let r := sum % 256
    f.Encoded ∧
    Flags s.p q (nvzc r (negative s.a == negative o.val && negative (byte r) != negative s.a) (decide (255 < sum))) ∧
    exec f.instr s = .next { o.st with a := byte r, p := q, cyc := s.cyc + f.cycles + penalty o.crossed }

/-- R161, all eight forms: the exact difference gives the result and the borrow; V when A and M have different signs and the
result's sign differs from A's. -/
def Obligations.SbcResult : Prop :=
  ∀ (d : Byte) (a : Addr) (s : State), ∀ f ∈ sbcForms d a, ∃ q,
    let o := f.src.read s
    let diff : Int := (s.a.toNat : Int) - o.val.toNat - (1 - carry s.p)
    let r := (diff % 256).toNat
    f.Encoded ∧
    Flags s.p q (nvzc r (negative s.a != negative o.val && negative (byte r) != negative s.a) (decide (0 ≤ diff))) ∧
    exec f.instr s = .next { o.st with a := byte r, p := q, cyc := s.cyc + f.cycles + penalty o.crossed }

/-- The corner case of R161: SBC of M gives exactly the result and flags of ADC of `M xor 0xFF`, in every form: from the state that
reading the operand leaves, and for the same cycles. -/
def Obligations.SbcIsAdcOfComplement : Prop :=
  ∀ (d : Byte) (a : Addr) (s : State), ∀ f ∈ sbcForms d a,
    exec f.instr s = exec (.adcImm ((f.src.read s).val ^^^ 0xFF))
      { (f.src.read s).st with cyc := s.cyc + f.cycles + penalty (f.src.read s).crossed - 2 }

/-- R162 to R164, all eight forms of each: bit by bit. -/
def Obligations.LogicResult : Prop :=
  ∀ (d : Byte) (a : Addr) (s : State),
    (∀ f ∈ andForms d a, ∃ q r, let o := f.src.read s
      f.Encoded ∧ (∀ i, i < 8 → r.getLsbD i = (s.a.getLsbD i && o.val.getLsbD i)) ∧ Flags s.p q (nz r.toNat) ∧
      exec f.instr s = .next { o.st with a := r, p := q, cyc := s.cyc + f.cycles + penalty o.crossed }) ∧
    (∀ f ∈ oraForms d a, ∃ q r, let o := f.src.read s
      f.Encoded ∧ (∀ i, i < 8 → r.getLsbD i = (s.a.getLsbD i || o.val.getLsbD i)) ∧ Flags s.p q (nz r.toNat) ∧
      exec f.instr s = .next { o.st with a := r, p := q, cyc := s.cyc + f.cycles + penalty o.crossed }) ∧
    (∀ f ∈ eorForms d a, ∃ q r, let o := f.src.read s
      f.Encoded ∧ (∀ i, i < 8 → r.getLsbD i = (s.a.getLsbD i != o.val.getLsbD i)) ∧ Flags s.p q (nz r.toNat) ∧
      exec f.instr s = .next { o.st with a := r, p := q, cyc := s.cyc + f.cycles + penalty o.crossed })

/-- R165 to R167: a compare keeps only the flags of the exact difference: C when the register is not below the operand (unsigned), Z when they
are equal, N of the wrapped difference; V stays. -/
def Obligations.CompareResult : Prop :=
  ∀ (d : Byte) (a : Addr) (s : State) (r : Byte) (forms : List Form),
    (r, forms) ∈ [(s.a, cmpForms d a), (s.x, cpxForms d a), (s.y, cpyForms d a)] →
    ∀ f ∈ forms, ∃ q, let o := f.src.read s
      f.Encoded ∧ Flags s.p q (nzc ((r.toNat + 256 - o.val.toNat) % 256) (decide (o.val.toNat ≤ r.toNat))) ∧
      exec f.instr s = .next { o.st with p := q, cyc := s.cyc + f.cycles + penalty o.crossed }

/-- R168: Z of `A and M`; N and V from bits 7 and 6 of M; A and C stay. -/
def Obligations.BitResult : Prop :=
  ∀ (d : Byte) (a : Addr) (s : State), ∀ f ∈ bitForms d a, ∃ q, let o := f.src.read s
    f.Encoded ∧ Flags s.p q (fun i => match i with
      | 1 => some (decide (s.a &&& o.val = 0))
      | 6 => some (o.val.getLsbD 6)
      | 7 => some (o.val.getLsbD 7)
      | _ => none) ∧
    exec f.instr s = .next { o.st with p := q, cyc := s.cyc + f.cycles }

/-- R169, R170: one read and one write of the same address; N and Z of the result; C and V stay. -/
def Obligations.IncDecResult : Prop :=
  ∀ (d : Byte) (a : Addr) (s : State) (k : Nat) (forms : List MForm),
    (k, forms) ∈ [(1, incForms d a), (255, decForms d a)] →
    ∀ f ∈ forms, ∃ q,
      let t := f.mode.target s
      let m := memRead (adr t.addr) t.st
      let r := (m.1.toNat + k) % 256
      let w := memWrite (adr t.addr) (byte r) m.2
      f.Encoded ∧ Flags s.p q (nz r) ∧ exec f.instr s = .next { w with p := q, cyc := w.cyc + f.cycles }

/-- R171 to R174. -/
def Obligations.IndexStepResult : Prop :=
  ∀ s : State,
    (∃ q, encode .inx = [0xE8] ∧ Flags s.p q (nz ((s.x.toNat + 1) % 256)) ∧
      exec .inx s = .next { s with x := byte (s.x.toNat + 1), p := q, cyc := s.cyc + 2 }) ∧
    (∃ q, encode .iny = [0xC8] ∧ Flags s.p q (nz ((s.y.toNat + 1) % 256)) ∧
      exec .iny s = .next { s with y := byte (s.y.toNat + 1), p := q, cyc := s.cyc + 2 }) ∧
    (∃ q, encode .dex = [0xCA] ∧ Flags s.p q (nz ((s.x.toNat + 255) % 256)) ∧
      exec .dex s = .next { s with x := byte (s.x.toNat + 255), p := q, cyc := s.cyc + 2 }) ∧
    (∃ q, encode .dey = [0x88] ∧ Flags s.p q (nz ((s.y.toNat + 255) % 256)) ∧
      exec .dey s = .next { s with y := byte (s.y.toNat + 255), p := q, cyc := s.cyc + 2 })

/-! ## Shift and rotate (spec/42_shift_rotate.md) -/

namespace Sys2Proof.Spec

/-- R190 to R193: the four shifts as functions of the operand and the old carry: the result and the bit shifted out. -/
def aslOf (m _c : Nat) : Nat × Bool := (2 * m % 256, decide (128 ≤ m))
def lsrOf (m _c : Nat) : Nat × Bool := (m / 2, decide (m % 2 = 1))
def rolOf (m c : Nat) : Nat × Bool := (2 * m % 256 + c, decide (128 ≤ m))
def rorOf (m c : Nat) : Nat × Bool := (m / 2 + 128 * c, decide (m % 2 = 1))

end Sys2Proof.Spec

/-- R190 to R193, every form: the result and the carry are those of the rules, from the old operand and the old carry. A memory form
makes one read and one write of the same address. -/
def Obligations.ShiftResult : Prop :=
  ∀ (d : Byte) (a : Addr) (s : State) (i : Instr) (op : Byte) (forms : List MForm) (g : Nat → Nat → Nat × Bool),
    (i, op, forms, g) ∈ [(Instr.aslAcc, 0x0A, aslForms d a, aslOf), (.lsrAcc, 0x4A, lsrForms d a, lsrOf),
      (.rolAcc, 0x2A, rolForms d a, rolOf), (.rorAcc, 0x6A, rorForms d a, rorOf)] →
    (∃ q, let r := g s.a.toNat (carry s.p)
      encode i = [op] ∧ Flags s.p q (nzc r.1 r.2) ∧ exec i s = .next { s with a := byte r.1, p := q, cyc := s.cyc + 2 }) ∧
    (∀ f ∈ forms, ∃ q,
      let t := f.mode.target s
      let m := memRead (adr t.addr) t.st
      let r := g m.1.toNat (carry s.p)
      let w := memWrite (adr t.addr) (byte r.1) m.2
      f.Encoded ∧ Flags s.p q (nzc r.1 r.2) ∧ exec f.instr s = .next { w with p := q, cyc := w.cyc + f.cycles })

/-! ## Control transfer (spec/43_control_transfer.md) -/

/-- R200 with R119 and R124: the absolute form goes to its operand. The indirect form reads its pointer's high byte without a carry into
the pointer's page: that is the default of `JMP_IND_PAGE_WRAP`, true, at which the model fixes it (log entry 5, the model's choice). -/
def Obligations.JmpResult : Prop :=
  ∀ (a : Addr) (s : State),
    encode (.jmpAbs a) = [0x4C, low a, high a] ∧ encode (.jmpInd a) = [0x6C, low a, high a] ∧
    exec (.jmpAbs a) s = .next { s with pc := a, cyc := s.cyc + 3 } ∧
    (let lo := memRead a s
     let hi := memRead (adr (a.toNat / 256 * 256 + (a.toNat + 1) % 256)) lo.2
     exec (.jmpInd a) s = .next { hi.2 with pc := adr (256 * hi.1.toNat + lo.1.toNat), cyc := s.cyc + 5 })

/-- R201, R202: JSR pushes the address of its own last byte, high byte first; RTS pulls it, low byte first, and adds the one back. -/
def Obligations.JsrRtsResult : Prop :=
  ∀ (a : Addr) (s : State),
    encode (.jsrAbs a) = [0x20, low a, high a] ∧ encode .rts = [0x60] ∧
    (let ret := adr (s.pc.toNat + 65535)
     let t := pushed (low ret) (pushed (high ret) s)
     exec (.jsrAbs a) s = .next { t with pc := a, cyc := t.cyc + 6 }) ∧
    (let lo := pulled s
     let hi := pulled lo.2
     exec .rts s = .next { hi.2 with pc := adr (256 * hi.1.toNat + lo.1.toNat + 1), cyc := s.cyc + 6 })

namespace Sys2Proof.Spec

/-- R204 to R211: each branch, its opcode byte, the flag bit it tests and the value it is taken on. -/
def branches (d : Byte) : List (Instr × Byte × Nat × Bool) :=
  [(.bccRel d, 0x90, 0, false), (.bcsRel d, 0xB0, 0, true), (.beqRel d, 0xF0, 1, true), (.bneRel d, 0xD0, 1, false),
   (.bmiRel d, 0x30, 7, true), (.bplRel d, 0x10, 7, false), (.bvcRel d, 0x50, 6, false), (.bvsRel d, 0x70, 6, true)]

/-- R8, R125: the branch target as a number. -/
def branchTarget (pc d : Nat) : Nat := if d < 128 then (pc + d) % 65536 else (pc + 65536 + d - 256) % 65536

end Sys2Proof.Spec

/-- R203 to R211, all eight branches: where the PC goes and what it costs, taken, taken across a page, and not taken. -/
def Obligations.BranchResult : Prop :=
  ∀ (d : Byte) (s : State), ∀ b ∈ branches d,
    let target := branchTarget s.pc.toNat d.toNat
    encode b.1 = [b.2.1, d] ∧ exec b.1 s =
      if s.p.getLsbD b.2.2.1 = b.2.2.2 then
        .next { s with pc := adr target, cyc := s.cyc + (if target / 256 = s.pc.toNat / 256 then 3 else 4) }
      else .next { s with cyc := s.cyc + 2 }

/-! ## Stack, flags, system (spec/44_stack_flags_system.md) -/

/-- R220 to R223. The pushed copy of P has bits 5 and 4 set; a pulled one leaves bit 5 at 1 and bit 4 at 0. -/
def Obligations.StackResult : Prop :=
  ∀ s : State,
    encode .pha = [0x48] ∧ encode .php = [0x08] ∧ encode .pla = [0x68] ∧ encode .plp = [0x28] ∧
    (let t := pushed s.a s; exec .pha s = .next { t with cyc := t.cyc + 3 }) ∧
    (∃ v, Flags s.p v (fun i => if i = 4 ∨ i = 5 then some true else none) ∧
      (let t := pushed v s; exec .php s = .next { t with cyc := t.cyc + 3 })) ∧
    (∃ q, Flags s.p q (nz (pulled s).1.toNat) ∧
      exec .pla s = .next { (pulled s).2 with a := (pulled s).1, p := q, cyc := s.cyc + 4 }) ∧
    (∃ q, Flags s.p q (pulledFlags (pulled s).1) ∧
      exec .plp s = .next { (pulled s).2 with p := q, cyc := s.cyc + 4 })

/-- R224 to R231: each flag instruction writes its one flag; NOP nothing. -/
def Obligations.FlagInstructionResult : Prop :=
  ∀ s : State,
    (∀ b ∈ [(Instr.clc, 0x18, 0, false), (.sec, 0x38, 0, true), (.cli, 0x58, 2, false), (.sei, 0x78, 2, true),
            (.clv, 0xB8, 6, false), (.cld, 0xD8, 3, false), (.sed, 0xF8, 3, true)],
      ∃ q, encode b.1 = [b.2.1] ∧ Flags s.p q (oneFlag b.2.2.1 b.2.2.2) ∧ exec b.1 s = .next { s with p := q, cyc := s.cyc + 2 }) ∧
    encode .nop = [0xEA] ∧ exec .nop s = .next { s with cyc := s.cyc + 2 }

/-- R232, R233: BRK skips its padding byte and requests the brk tag, which replaces none and irq only; it pushes nothing. That one byte is
skipped is the default of `BRK_PC_ADVANCE`, 2, and which tags are replaced that of `MergePending`; the model fixes both there (log
entry 5, the model's choice). RTI pulls the status, then the PC, low byte first, with nothing added. -/
def Obligations.BrkRtiResult : Prop :=
  ∀ s : State,
    encode .brk = [0x00] ∧ encode .rti = [0x40] ∧ exec .brk s = .next { s with
      pc := adr (s.pc.toNat + 1), pending := if s.pending = .none ∨ s.pending = .irq then .brk else s.pending,
      cyc := s.cyc + 7 } ∧
    (∃ q,
      let v := pulled s
      let lo := pulled v.2
      let hi := pulled lo.2
      Flags s.p q (pulledFlags v.1) ∧
      exec .rti s = .next { hi.2 with p := q, pc := adr (256 * hi.1.toNat + lo.1.toNat), cyc := s.cyc + 6 })

/-! ## Unknown opcodes (R236) -/

namespace Sys2Proof.Spec

/-- R128: the 105 opcode bytes with no table entry: those below 0x80, then the rest. -/
def unknownLow : List (Instr × Nat) :=
  [(.unknown02, 0x02), (.unknown03, 0x03), (.unknown04, 0x04), (.unknown07, 0x07), (.unknown0B, 0x0B), (.unknown0C, 0x0C),
   (.unknown0F, 0x0F), (.unknown12, 0x12), (.unknown13, 0x13), (.unknown14, 0x14), (.unknown17, 0x17), (.unknown1A, 0x1A),
   (.unknown1B, 0x1B), (.unknown1C, 0x1C), (.unknown1F, 0x1F), (.unknown22, 0x22), (.unknown23, 0x23), (.unknown27, 0x27),
   (.unknown2B, 0x2B), (.unknown2F, 0x2F), (.unknown32, 0x32), (.unknown33, 0x33), (.unknown34, 0x34), (.unknown37, 0x37),
   (.unknown3A, 0x3A), (.unknown3B, 0x3B), (.unknown3C, 0x3C), (.unknown3F, 0x3F), (.unknown42, 0x42), (.unknown43, 0x43),
   (.unknown44, 0x44), (.unknown47, 0x47), (.unknown4B, 0x4B), (.unknown4F, 0x4F), (.unknown52, 0x52), (.unknown53, 0x53),
   (.unknown54, 0x54), (.unknown57, 0x57), (.unknown5A, 0x5A), (.unknown5B, 0x5B), (.unknown5C, 0x5C), (.unknown5F, 0x5F),
   (.unknown62, 0x62), (.unknown63, 0x63), (.unknown64, 0x64), (.unknown67, 0x67), (.unknown6B, 0x6B), (.unknown6F, 0x6F),
   (.unknown72, 0x72), (.unknown73, 0x73), (.unknown74, 0x74), (.unknown77, 0x77), (.unknown7A, 0x7A), (.unknown7B, 0x7B),
   (.unknown7C, 0x7C), (.unknown7F, 0x7F)]

def unknownHigh : List (Instr × Nat) :=
  [(.unknown80, 0x80), (.unknown82, 0x82), (.unknown83, 0x83), (.unknown87, 0x87), (.unknown89, 0x89), (.unknown8B, 0x8B),
   (.unknown8F, 0x8F), (.unknown92, 0x92), (.unknown93, 0x93), (.unknown97, 0x97), (.unknown9B, 0x9B), (.unknown9C, 0x9C),
   (.unknown9E, 0x9E), (.unknown9F, 0x9F), (.unknownA3, 0xA3), (.unknownA7, 0xA7), (.unknownAB, 0xAB), (.unknownAF, 0xAF),
   (.unknownB2, 0xB2), (.unknownB3, 0xB3), (.unknownB7, 0xB7), (.unknownBB, 0xBB), (.unknownBF, 0xBF), (.unknownC2, 0xC2),
   (.unknownC3, 0xC3), (.unknownC7, 0xC7), (.unknownCB, 0xCB), (.unknownCF, 0xCF), (.unknownD2, 0xD2), (.unknownD3, 0xD3),
   (.unknownD4, 0xD4), (.unknownD7, 0xD7), (.unknownDA, 0xDA), (.unknownDB, 0xDB), (.unknownDC, 0xDC), (.unknownDF, 0xDF),
   (.unknownE2, 0xE2), (.unknownE3, 0xE3), (.unknownE7, 0xE7), (.unknownEB, 0xEB), (.unknownEF, 0xEF), (.unknownF2, 0xF2),
   (.unknownF3, 0xF3), (.unknownF4, 0xF4), (.unknownF7, 0xF7), (.unknownFA, 0xFA), (.unknownFB, 0xFB), (.unknownFC, 0xFC),
   (.unknownFF, 0xFF)]

def unknownOpcodes : List (Instr × Nat) := unknownLow ++ unknownHigh

end Sys2Proof.Spec

/-- R236 with R128: each of the 105 unknown opcodes is logged with its own address, sets the sticky mark, costs 2 cycles, and does
nothing else; the fetch has already moved the PC past the one byte. The 2 cycles are the default of `UNKNOWN_OPCODE_CYCLES` (log
entry 5), and going on at all that of `UNKNOWN_OPCODE_POLICY`, skip (log entry 19): both are the model's choice. -/
def Obligations.UnknownOpcodeResult : Prop :=
  ∀ (s : State), ∀ u ∈ unknownOpcodes,
    encode u.1 = [byte u.2] ∧
    exec u.1 s = .next { s with
      sawUnknownOpcode := true, cyc := s.cyc + 2,
      io := { s.io with log := s.io.log ++ [.unknownOpcode (byte u.2) (adr (s.pc.toNat + 65535))] } }

/-! ## Encoding and decoding (spec/30_encoding.md) -/

/-- R110 to R112, every instruction with every operand: decoding its bytes gives it back, and leaves what follows. -/
def Obligations.DecodeEncode : Prop :=
  ∀ (i : Instr) (rest : List Byte), i.wellFormed = true → decode (encode i ++ rest) = .ok (i, rest)

/-- R110, R111, R132: what the decoder reads is exactly the bytes of the instruction that it gives, one, two or three of them; and
it stops only for want of bytes: on no byte, or on fewer bytes than the opcode asks for. No opcode byte is refused. -/
def Obligations.DecodeExact : Prop :=
  (∀ bytes i rest, decode bytes = .ok (i, rest) →
    bytes = encode i ++ rest ∧ (encode i).length ∈ [1, 2, 3] ∧ wellFormedBytes (encode i) = true) ∧
  (∀ e, decode [] = .error e ↔ e = .empty) ∧
  (∀ op rest, (∃ e, decode (op :: rest) = .error e) ↔ rest.length + 1 < lengthOf op)

/-- Words written out from R126: one or more of each family, each byte as the map and R111 give it. -/
def Obligations.SampleWords : Prop :=
  decodeTableWord 16 0x80A9 = some (.ldaImm 0x80) ∧           -- LDA #$80
  decodeTableWord 24 0x02FF9D = some (.staAbx 0x02FF) ∧       -- STA $02FF,X
  decodeTableWord 16 0xF096 = some (.stxZpy 0xF0) ∧           -- STX $F0,Y
  decodeTableWord 8 0xBA = some .tsx ∧
  decodeTableWord 16 0xF069 = some (.adcImm 0xF0) ∧           -- ADC #$F0
  decodeTableWord 16 0x10F1 = some (.sbcIzy 0x10) ∧           -- SBC ($10),Y
  decodeTableWord 16 0x1024 = some (.bitZp 0x10) ∧            -- BIT $10
  decodeTableWord 8 0x6A = some .rorAcc ∧
  decodeTableWord 24 0x12341E = some (.aslAbx 0x1234) ∧       -- ASL $1234,X
  decodeTableWord 24 0x123420 = some (.jsrAbs 0x1234) ∧       -- JSR $1234
  decodeTableWord 24 0x02FF6C = some (.jmpInd 0x02FF) ∧       -- JMP ($02FF)
  decodeTableWord 16 0xFBD0 = some (.bneRel 0xFB) ∧              -- BNE -5
  decodeTableWord 8 0x48 = some .pha ∧
  decodeTableWord 8 0x00 = some .brk ∧
  decodeTableWord 8 0x40 = some .rti ∧
  decodeTableWord 8 0x02 = some .unknown02

/-! ## The step (R132, R458; spec/60_exceptions.md) -/

namespace Sys2Proof.Spec

/-- R11: `n` bytes fetched over the bus, each at the PC, which moves past it. -/
def fetched : Nat → State → List Byte × State
  | 0, s => ([], s)
  | n + 1, s =>
    let b := memRead s.pc s
    let rest := fetched n { b.2 with pc := adr (s.pc.toNat + 1) }
    (b.1 :: rest.1, rest.2)

end Sys2Proof.Spec

/-- R132, R458: inside `Execute`, with budget left, a step is the interrupt check and then the meaning of the instruction that the
bytes at the PC decode to, the PC having moved past exactly those bytes. It holds wherever the bytes come from. (The budget is the
source's 114 cycles, `LINE_BUDGET`, log entry 5; that a step is one iteration of the loop is log entry 3.) -/
def Obligations.StepRunsFetched : Prop :=
  ∀ (s : State) (n : Nat) (i : Instr),
    s.orch.phase = .cpu → s.cyc < 114 →
    decode (fetched n (servicePending s)).1 = .ok (i, []) →
    step s = exec i (fetched n (servicePending s)).2

/-- The same where the bytes lie in memory and the check acts on nothing: the bytes that the machine would read at the PC decode to a
well-formed instruction, and the step is that instruction with the PC moved past it, nothing else having changed. (Log entries 3 and 5
as there.) -/
def Obligations.StepRunsDecoded : Prop :=
  ∀ (s : State) (i : Instr) (rest : List Byte),
    s.orch.phase = .cpu → s.cyc < 114 → interruptDue s = false →
    storable s s.pc = true → storable s (s.pc + 1) = true → storable s (s.pc + 2) = true →
    decode [peek s s.pc, peek s (s.pc + 1), peek s (s.pc + 2)] = .ok (i, rest) → i.wellFormed = true →
    step s = exec i { s with pc := adr (s.pc.toNat + (encode i).length) }

/-- R458, R455, R456: with the budget spent no instruction runs; the surplus stays in the counter, and after the sequencer's step on lines 0,
66, 131 and 197 (R377) the next line begins. After the last line comes the flush, then the response, with the picture unless the
request was a skip-frame; the audio buffer (R49) and the line are emptied, and a frame clears the skip count. That the response carries
copies, that the audio is emptied after it and that the picture stays in the machine is the model's reading (log entry 21, DEDUCED);
114 cycles and 262 lines are `LINE_BUDGET` and `LINES_PER_FRAME` at their defaults (log entry 5). -/
def Obligations.LineEndResult : Prop :=
  ∀ s : State, s.orch.phase = .cpu → 114 ≤ s.cyc →
    let t := { s with cyc := s.cyc - 114 }
    let u := if s.orch.line ∈ [0, 66, 131, 197] then stepFrame t else t
    (s.orch.line < 261 → step s = .next { u with orch := { u.orch with line := s.orch.line + 1, phase := .lineStart } }) ∧
    (s.orch.line = 261 →
      let f := endOfFrameFlush { u with orch := { u.orch with line := 0 } }
      step s = .next { f with
        io := { f.io with outbox := f.io.outbox ++
          [{ pixels := if s.orch.skipping then none else some u.ppu.frame, audio := some u.apu.audio }] }
        apu := { f.apu with audio := [] }
        orch := { f.orch with phase := .idle, skipping := false,
                              skipRun := if s.orch.skipping then f.orch.skipRun else 0 } })

/-- R250, R498: nothing stops the machine: from every state, whatever is in it, a step gives a next state. R498 also allows a machine that
fails hard on an unknown opcode: that none does here is the default of `UNKNOWN_OPCODE_POLICY`, skip, at which the model fixes it (log
entries 5 and 19, the model's choice), and that a step with an empty inbox waits, the state as it was, is the model's choice too (log
entry 4). -/
def Obligations.EveryStepCompletes : Prop := ∀ s : State, ∃ t, step s = .next t

/-- The state after reset has the invariant of Safety.lean, and the power-on column of R53 in the CPU, the memories, the PPU, the APU's
enables, length counters, sequencer and noise register, the controllers and the orchestrator. A, X and Y are 0 by the defaults of
`RESET_A`, `RESET_X` and `RESET_Y` (log entry 5, the model's choice). (The cartridge of that state, the empty picture and the empty audio
buffer are the model's choice too: log entries 2 and 10.) -/
def Obligations.ResetInv : Prop :=
  let r := State.reset
  State.Inv r ∧
  r.a = 0 ∧ r.x = 0 ∧ r.y = 0 ∧ r.sp = 0xFF ∧ r.p = 0x24 ∧
  r.pc = adr (256 * (peek r 0xFFFD).toNat + (peek r 0xFFFC).toNat) ∧
  r.pending = .none ∧ r.cyc = 0 ∧ r.sawUnknownOpcode = false ∧ r.saveDirty = 0 ∧
  (∀ a, Memory.read r.wram a = 0 ∧ Memory.read r.saveRam a = 0 ∧ Memory.read r.ppu.pattern a = 0 ∧
    Memory.read r.ppu.nt a = 0 ∧ Memory.read r.ppu.oam a = 0 ∧ Sparse.read 0 r.ppu.palette a = 0 ∧
    Sparse.read none r.ppu.spriteLine a = none) ∧
  r.ppu.mirroring = r.cart.defaultMirroring ∧ r.ppu.v = 0 ∧ r.ppu.t = 0 ∧ r.ppu.x = 0 ∧ r.ppu.w = false ∧
  r.ppu.ppuCtrl = 0 ∧ r.ppu.ppuMask = 0 ∧ r.ppu.oamAddr = 0 ∧ r.ppu.ppuReadBuf = 0 ∧
  r.ppu.vblank = false ∧ r.ppu.sprite0Hit = false ∧ r.ppu.spriteOverflow = false ∧
  r.apu.pulse1.enable = false ∧ r.apu.pulse2.enable = false ∧ r.apu.triangle.enable = false ∧ r.apu.noise.enable = false ∧
  r.apu.dmc.enable = false ∧ r.apu.pulse1.length = 0 ∧ r.apu.pulse2.length = 0 ∧ r.apu.triangle.length = 0 ∧
  r.apu.noise.length = 0 ∧ r.apu.dmc.bytesLeft = 0 ∧ r.apu.dmc.level = 0 ∧ r.apu.dmc.dmcIrq = false ∧ r.apu.noise.lfsr = 1 ∧
  r.apu.seqMode = false ∧ r.apu.seqIndex = 0 ∧ r.apu.frameIrqInhibit = false ∧ r.apu.frameIrq = false ∧
  r.pads.buttons1 = 0 ∧ r.pads.buttons2 = 0 ∧ r.pads.padShift1 = 0 ∧ r.pads.padShift2 = 0 ∧ r.pads.strobe = false ∧
  r.orch.line = 0 ∧ r.orch.needInit = true ∧ r.orch.initKind = .power ∧ r.orch.skipRun = 0 ∧ r.orch.flushIdle = 0 ∧
  r.orch.flushBusy = 0 ∧ r.orch.lastDirty = 0 ∧ r.orch.halted = false ∧ r.orch.param = none

/-- R24, R28, R73, R79: from every state that has the invariant, a step leads to a state that has it: the flag byte keeps its fixed bits,
the bus table stays a partition with its fixed windows and two existing PRG banks, every memory keeps its size and canonical form,
and every counter its range.
(The canonical form of a memory is log entry 9, the bus table as a list of ranges log entry 25, both the model's choice.) -/
def Obligations.StepKeepsInv : Prop := ∀ s t : State, s.Inv → step s = .next t → t.Inv

/-- R26: the cycle counter stays below 1024: it never passes `LINE_BUDGET - 1` plus the largest charge of one iteration (a service, 7, and
a read-modify-write that starts a sprite DMA, 7 + 513). The number is built from defaults, `LINE_BUDGET` 114, `INT_CYCLES` 7,
`OAM_DMA_CYCLES` 513 and the cycle table of R495, at which the model fixes those parameters (log entry 5, the model's choice). -/
def Obligations.CycleCounterBound : Prop :=
  ∀ s t : State, s.Inv → s.cyc ≤ 640 → step s = .next t → t.cyc ≤ 640

/-- R236, R79: nothing clears the sticky mark, and no step changes the cartridge's bytes; the mark is set only by a step that
logs an unknown opcode.
(That the cartridge stands in the state is log entry 1, the model's choice.) -/
def Obligations.StickyMarkAndRom : Prop :=
  ∀ s t : State, step s = .next t →
    t.cart = s.cart ∧ (s.sawUnknownOpcode = true → t.sawUnknownOpcode = true) ∧
    (t.sawUnknownOpcode = true → s.sawUnknownOpcode = true ∨
      ∃ op pc, t.io.log = s.io.log ++ [.unknownOpcode op pc])

/-! ## Interrupts and reset (spec/60_exceptions.md, spec/70_reset_and_hazards.md) -/

namespace Sys2Proof.Spec

/-- R252: the priority order, lowest first. -/
def tagOrder : List Tag := [.none, .irq, .brk, .nmi, .reset]

end Sys2Proof.Spec

/-- R252, R15: a request leaves the tag of higher priority of the pending one and its own, and changes nothing else. (The order is the default
of `MergePending`, log entry 5.) -/
def Obligations.RequestPriority : Prop :=
  ∀ (k : Tag) (s : State), ∃ t, (t = s.pending ∨ t = k) ∧
    tagOrder.idxOf s.pending ≤ tagOrder.idxOf t ∧ tagOrder.idxOf k ≤ tagOrder.idxOf t ∧
    request k s = { s with pending := t }

/-- R254, R258: what the check does: nothing without a tag; nmi and reset are always taken; irq and brk are taken when I is 0, and
a masked one stays pending with nothing changed. The 7 cycles of a reset are the default of `INT_CYCLES` (log entry 5, the model's
choice). -/
def Obligations.InterruptCheck : Prop :=
  ∀ s : State,
    (s.pending = .none → servicePending s = s) ∧
    (s.pending = .reset → servicePending s = addCycles 7 (doReset s)) ∧
    (s.pending = .nmi → servicePending s = service .nmi s) ∧
    (∀ k, k = .irq ∨ k = .brk → s.pending = k →
      servicePending s = if s.p.getLsbD 2 then s else service k s)

namespace Sys2Proof.Spec

/-- The word that the machine would read at `a`, low byte at `a`. -/
def peekWord (s : State) (a : Nat) : Addr := adr (256 * (peek s (adr (a + 1))).toNat + (peek s (adr a)).toNat)

/-- R12, R74: work RAM with a byte stored at stack position `sp` modulo 256. -/
def stackStore (m : Memory) (sp : Nat) (v : Byte) : Memory := Memory.write m (256 + sp % 256) v

end Sys2Proof.Spec

/-- R255, R256, for nmi, irq and brk: the PC is pushed high byte first, then the status, with bit 5 set and B set for brk only; I is set;
the PC comes from the tag's vector; the slot is emptied; 7 cycles are charged. Nothing else changes. That I is set is the default of
`INT_SETS_I`, and 7 that of `INT_CYCLES` (log entry 5, the model's choice). -/
def Obligations.ServiceEffect : Prop :=
  ∀ (k : Tag) (s : State), s.Inv → k = .nmi ∨ k = .irq ∨ k = .brk → ∃ v q,
    let n := s.sp.toNat
    let stack := stackStore (stackStore (stackStore s.wram n (high s.pc)) (n + 255) (low s.pc)) (n + 254) v
    Flags s.p v (fun i => if i = 5 then some true else if i = 4 then some (decide (k = .brk)) else none) ∧
    Flags s.p q (oneFlag 2 true) ∧
    service k s = { s with
      wram := stack, sp := byte (n + 253), p := q, pc := peekWord s (if k = .nmi then 0xFFFA else 0xFFFE),
      pending := .none, cyc := s.cyc + 7 }

/-- R480, R261: `DoReset` gives the registers their reset values and loads the PC from the reset vector; nothing is pushed, no memory
is written, no device changes. A, X and Y are 0 by the defaults of `RESET_A`, `RESET_X` and `RESET_Y` (log entry 5, the model's choice). -/
def Obligations.ResetEffect : Prop :=
  ∀ s : State, s.Inv →
    doReset s = { s with
      a := 0, x := 0, y := 0, sp := 0xFF, p := 0x24, pending := .none, cyc := 0, pc := peekWord s 0xFFFC }

/-- R260: RTI undoes a service: after it the status, the PC and the stack pointer are what they were, and so is every register. Only the three
stack bytes of R255, the emptied slot and the cycles tell: 6 of RTI and 7 of the service, the default of `INT_CYCLES` (log entry 5,
the model's choice). -/
def Obligations.ServiceThenRti : Prop :=
  ∀ (k : Tag) (s : State), s.Inv → k = .nmi ∨ k = .irq ∨ k = .brk → ∃ v,
    let n := s.sp.toNat
    let stack := stackStore (stackStore (stackStore s.wram n (high s.pc)) (n + 255) (low s.pc)) (n + 254) v
    Flags s.p v (fun i => if i = 5 then some true else if i = 4 then some (decide (k = .brk)) else none) ∧
    exec .rti (service k s) = .next { s with wram := stack, pending := .none, cyc := s.cyc + 13 }

/-- R201, R202: RTS undoes JSR: it continues at the instruction after the JSR, with the stack pointer as it was. R220 to R223: PLA
undoes PHA and PLP undoes PHP. Only the stack bytes written, the flags of PLA and the cycles tell; the bytes are those of the
rules: the address of the JSR's last byte, A, the status with bits 5 and 4 set. -/
def Obligations.StackRoundTrips : Prop :=
  ∀ s : State, s.Inv →
    let n := s.sp.toNat
    let ret := adr (s.pc.toNat + 65535)
    (∀ a, ∃ t, exec (.jsrAbs a) s = .next t ∧ t.pc = a ∧
      exec .rts t = .next { s with
        wram := stackStore (stackStore s.wram n (high ret)) (n + 255) (low ret), cyc := s.cyc + 12 }) ∧
    (∃ t, exec .pha s = .next t ∧ ∀ b : Byte, ∃ q, Flags s.p q (nz s.a.toNat) ∧
      exec .pla { t with a := b } = .next { s with wram := stackStore s.wram n s.a, p := q, cyc := s.cyc + 7 }) ∧
    (∃ t v, Flags s.p v (fun i => if i = 4 ∨ i = 5 then some true else none) ∧ exec .php s = .next t ∧ ∀ r : Byte,
      exec .plp { t with p := r } = .next { s with wram := stackStore s.wram n v, cyc := s.cyc + 7 })

/-! ## Frames: what an instruction leaves alone -/

/-- R72, R17: reading an operand changes nothing but the PPU's ports, the APU's frame interrupt flag and the controllers; the memories of
the PPU are as they were. Where the address belongs to work RAM, the save buffer, PRG or the open device, nothing changes at all.
(An address in no range, which a partition does not have, belongs to the open device: log entry 11, the model's choice.) -/
def Obligations.OperandReadFrame : Prop :=
  (∀ (o : Src) (s : State), ∃ ppu f pads,
    (o.read s).st = { s with ppu := ppu, apu := { s.apu with frameIrq := f }, pads := pads } ∧
    ppu.pattern = s.ppu.pattern ∧ ppu.nt = s.ppu.nt ∧ ppu.palette = s.ppu.palette ∧ ppu.oam = s.ppu.oam ∧
    ppu.spriteLine = s.ppu.spriteLine ∧ ppu.frame = s.ppu.frame ∧ ppu.mirroring = s.ppu.mirroring) ∧
  (∀ (a : Addr) (s : State), (BusMap.lookup s.busMap a.toNat).1 ≠ .ppuPorts →
    (BusMap.lookup s.busMap a.toNat).1 ≠ .apuIo → (memRead a s).2 = s)

/-- R71, R72: a write, whatever the address and value, leaves the CPU's registers, flags and PC, the cartridge's bytes, the sticky mark,
the orchestrator and the host's boundary alone. (`pending` and `cyc` can change: a DMC interrupt, a sprite DMA.) -/
def Obligations.BusWriteFrame : Prop :=
  ∀ (a : Addr) (d : Byte) (s : State), ∃ pending cyc wram saveRam saveDirty busMap mapper ppu apu pads,
    memWrite a d s = { s with
      pending := pending, cyc := cyc, wram := wram, saveRam := saveRam, saveDirty := saveDirty, busMap := busMap,
      mapper := mapper, ppu := ppu, apu := apu, pads := pads }

namespace Sys2Proof.Spec

/-- The instructions that store nothing: every one but the stores, the read-modify-write forms, JSR, PHA and PHP. -/
def stores : Instr → Bool
  | .staZp _ | .staZpx _ | .staAbs _ | .staAbx _ | .staAby _ | .staIzx _ | .staIzy _ => true
  | .stxZp _ | .stxZpy _ | .stxAbs _ | .styZp _ | .styZpx _ | .styAbs _ => true
  | .incZp _ | .incZpx _ | .incAbs _ | .incAbx _ | .decZp _ | .decZpx _ | .decAbs _ | .decAbx _ => true
  | .aslZp _ | .aslZpx _ | .aslAbs _ | .aslAbx _ | .lsrZp _ | .lsrZpx _ | .lsrAbs _ | .lsrAbx _ => true
  | .rolZp _ | .rolZpx _ | .rolAbs _ | .rolAbx _ | .rorZp _ | .rorZpx _ | .rorAbs _ | .rorAbx _ => true
  | .jsrAbs _ | .pha | .php => true
  | _ => false

/-- Does the byte at this address lie in a memory (work RAM, the save buffer, PRG) or in the open device? -/
def plain (s : State) (b : Addr) : Prop :=
  (BusMap.lookup s.busMap b.toNat).1 ≠ .ppuPorts ∧ (BusMap.lookup s.busMap b.toNat).1 ≠ .apuIo

end Sys2Proof.Spec

/-- R92, R17: an instruction that stores nothing leaves every byte of memory as it was: work RAM, the save buffer, the cartridge, the
PPU's memories, the mapper and the bus table; and every address outside the device ports reads as before.
(An address in no range belongs to the open device: log entry 11, the model's choice.) -/
def Obligations.NonStoringFrame : Prop :=
  ∀ (i : Instr) (s t : State), stores i = false → exec i s = .next t →
    t.wram = s.wram ∧ t.saveRam = s.saveRam ∧ t.saveDirty = s.saveDirty ∧ t.cart = s.cart ∧ t.busMap = s.busMap ∧
    t.mapper = s.mapper ∧ t.orch = s.orch ∧
    t.ppu.pattern = s.ppu.pattern ∧ t.ppu.nt = s.ppu.nt ∧ t.ppu.palette = s.ppu.palette ∧ t.ppu.oam = s.ppu.oam ∧
    ∀ b, plain s b → peek t b = peek s b

/-- R74, R78, R79, R82: a store, a read-modify-write's write or a push whose address belongs to work RAM or the save buffer changes the byte at
that address and its mirrors only, whatever the state; written to the open device, or to PRG with mapper 0, it changes none. The
address is the effective address of the rules, or `0x0100 + SP`.
(An offset beyond the save buffer is reduced modulo its size, log entry 22, DEDUCED, and an address in no range belongs to the open device, log
entry 11, the model's choice: neither happens with the fixed windows.) -/
def Obligations.StoreFrame : Prop :=
  ∀ (a : Addr) (d : Byte) (s : State) (b : Addr), plain s a → plain s b →
    let c := BusMap.lookup s.busMap a.toNat
    let e := BusMap.lookup s.busMap b.toNat
    (c.1 = .wram → peek (memWrite a d s) b = if e.1 = .wram ∧ e.2 % 2048 = c.2 % 2048 then d else peek s b) ∧
    (c.1 = .saveRam → peek (memWrite a d s) b = if e.1 = .saveRam ∧ e.2 % 8192 = c.2 % 8192 then d else peek s b) ∧
    (c.1 = .openDev → memWrite a d s = s) ∧
    (∀ base, c.1 = .prg base → s.cart.mapperId = 0 → memWrite a d s = s)

namespace Sys2Proof.Spec

/-- The device that an address belongs to, and the cell of it: work RAM repeats every 2048 bytes (R74). -/
def cell (s : State) (a : Nat) : Device × Nat :=
  let r := BusMap.lookup s.busMap a
  match r.1 with
  | .wram => (.wram, r.2 % 2048)
  | .saveRam => (.saveRam, r.2 % 8192)
  | dev => (dev, r.2)

/-- Is this address one of work RAM, the save buffer or the open device? -/
def holdsData (s : State) (a : Nat) : Prop :=
  (cell s a).1 = .wram ∨ (cell s a).1 = .saveRam ∨ (cell s a).1 = .openDev

/-- Every storing instruction with the addresses it stores to. -/
def storeAddresses (d : Byte) (a : Addr) (s : State) : List (Instr × List Nat) :=
  (staForms d a ++ stxForms d a ++ styForms d a ++ incForms d a ++ decForms d a ++ aslForms d a ++ lsrForms d a ++
    rolForms d a ++ rorForms d a).map (fun f => (f.instr, [(f.mode.target s).addr])) ++
  [(.jsrAbs a, [256 + s.sp.toNat, 256 + (s.sp.toNat + 255) % 256]), (.pha, [256 + s.sp.toNat]), (.php, [256 + s.sp.toNat])]

end Sys2Proof.Spec

/-- R17, R92, R12: an instruction that stores, run where its addresses hold data, leaves every other cell of memory as it was: every address
outside the device ports that is no mirror of one it stores to reads as before.
(Log entries 11 and 22 as in StoreFrame.) -/
def Obligations.StoringFrame : Prop :=
  ∀ (d : Byte) (a : Addr) (s t : State), ∀ f ∈ storeAddresses d a s, (∀ n ∈ f.2, holdsData s n) → exec f.1 s = .next t →
    ∀ b : Addr, plain s b → (∀ n ∈ f.2, cell s b.toNat ≠ cell s n) → peek t b = peek s b

/-! ## The bus and the cartridge (spec/20_memory.md, spec/63_bus_mapper.md) -/

/-- R74: work RAM repeats four times: a byte written at any address below 0x2000 is read back at every address that is equal modulo 2048, and
at no other address below 0x2000 has the byte changed. R77, R78: the save window, when there is one; else it and
0x4020 to 0x5FFF read 0 and ignore writes. -/
def Obligations.RamWindows : Prop :=
  ∀ (s : State) (d : Byte), s.Inv →
    (∀ a b, a < 0x2000 → b < 0x2000 →
      peek (memWrite (adr a) d s) (adr b) = if a % 2048 = b % 2048 then d else Memory.read s.wram (b % 2048)) ∧
    (∀ a b, 0x6000 ≤ a → a < 0x8000 → 0x6000 ≤ b → b < 0x8000 → s.cart.battery = true →
      peek (memWrite (adr a) d s) (adr b) = (if a = b then d else Memory.read s.saveRam (b - 0x6000)) ∧
      (memWrite (adr a) d s).saveDirty = s.saveDirty + 1) ∧
    (∀ a, (0x4020 ≤ a ∧ a < 0x6000) ∨ (0x6000 ≤ a ∧ a < 0x8000 ∧ s.cart.battery = false) →
      peek s (adr a) = 0 ∧ memWrite (adr a) d s = s)

/-- Equal memories are equal data: two memories in canonical form that read alike everywhere are the same list. The whole statement is about
the model's own form of a memory (log entry 9, DESIGN CHOICE, the model's choice): no rule states it. The spec gives the memories as arrays
(R30, R31, R34 to R37), all zeros at power-on (R53), which is what an unlisted byte reads as. -/
def Obligations.MemoriesEqualAsData : Prop :=
  ∀ (size : Nat) (m k : Memory), Memory.wf size m = true → Memory.wf size k = true →
    (∀ a, Memory.read m a = Memory.read k a) → m = k

namespace Sys2Proof.Spec

/-- PRG byte `o` of bank `k`. -/
def prgByte (c : Cart) (k o : Nat) : Byte := Memory.read c.prg (16384 * k + o)

/-- The two PRG windows show banks `lo` and `hi`. -/
def showsBanks (s : State) (lo hi : Nat) : Prop :=
  ∀ o, o < 16384 → peek s (adr (0x8000 + o)) = prgByte s.cart lo o ∧ peek s (adr (0xC000 + o)) = prgByte s.cart hi o

end Sys2Proof.Spec

/-- R421, R423: with mapper 1, a write to 0x8000 to 0xFFFF with bit 7 set empties the accumulator and sets bits 3 and 2 of the control register:
bank `mmcPrg[3:0]` modulo the bank count is then at 0x8000 and the last bank at 0xC000. No memory outside the windows changes. -/
def Obligations.Mmc1ResetWrite : Prop :=
  ∀ (s : State) (a : Nat) (d : Byte), s.Inv → s.cart.mapperId = 1 → 0x8000 ≤ a → a < 0x10000 → d.getLsbD 7 = true →
    let t := memWrite (adr a) d s
    t.mapper.mmcShift = 0 ∧ t.mapper.mmcCount = 0 ∧ t.mapper.mmcControl = s.mapper.mmcControl ||| 0x0C ∧
    showsBanks t (s.mapper.mmcPrg.toNat % 16 % s.cart.prgBanks) (s.cart.prgBanks - 1) ∧
    (∀ b, b < 0x8000 → BusMap.lookup t.busMap b = BusMap.lookup s.busMap b) ∧
    t.wram = s.wram ∧ t.saveRam = s.saveRam ∧ t.ppu = s.ppu ∧ t.cart = s.cart

namespace Sys2Proof.Spec

/-- Five serial writes, addresses and data in order. -/
def serial5 (w : List (Nat × Byte)) (s : State) : State := w.foldl (fun t p => memWrite (adr p.1) p.2 t) s

/-- R422, R423: the banks at 0x8000 and 0xC000 that the registers select, of `n` banks. -/
def selectedBanks (control prg n : Nat) : Nat × Nat :=
  let p := prg % 16
  if control / 4 % 4 = 2 then (0, p % n)
  else if control / 4 % 4 = 3 then (p % n, n - 1)
  else (p / 2 * 2 % n, (p / 2 * 2 + 1) % n)

end Sys2Proof.Spec

/-- R421 to R423: five writes with bit 7 clear, started with an empty accumulator, load the register that bits 14 and 13 of the
FIFTH address choose with their bits 0, the first written lowest; the PRG windows then show the banks that R423 gives, and the
accumulator is empty again. The first four addresses do not matter. -/
def Obligations.Mmc1SerialLoad : Prop :=
  ∀ (s : State) (a0 a1 a2 a3 a4 : Nat) (d0 d1 d2 d3 d4 : Byte),
    s.Inv → s.cart.mapperId = 1 → s.mapper.mmcShift = 0 → s.mapper.mmcCount = 0 →
    (∀ a ∈ [a0, a1, a2, a3, a4], 0x8000 ≤ a ∧ a < 0x10000) →
    (∀ d ∈ [d0, d1, d2, d3, d4], d.getLsbD 7 = false) →
    let t := serial5 [(a0, d0), (a1, d1), (a2, d2), (a3, d3), (a4, d4)] s
    let v := d0.toNat % 2 + 2 * (d1.toNat % 2) + 4 * (d2.toNat % 2) + 8 * (d3.toNat % 2) + 16 * (d4.toNat % 2)
    let k := a4 / 0x2000 % 4
    t.mapper.mmcShift = 0 ∧ t.mapper.mmcCount = 0 ∧
    t.mapper.mmcControl = (if k = 0 then BitVec.ofNat 5 v else s.mapper.mmcControl) ∧
    t.mapper.mmcChr0 = (if k = 1 then BitVec.ofNat 5 v else s.mapper.mmcChr0) ∧
    t.mapper.mmcChr1 = (if k = 2 then BitVec.ofNat 5 v else s.mapper.mmcChr1) ∧
    t.mapper.mmcPrg = (if k = 3 then BitVec.ofNat 5 v else s.mapper.mmcPrg) ∧
    (k = 0 ∨ k = 3 →
      let b := selectedBanks t.mapper.mmcControl.toNat t.mapper.mmcPrg.toNat s.cart.prgBanks
      showsBanks t b.1 b.2) ∧
    (k = 0 → s.cart.defaultMirroring ≠ .fourScreen →
      t.ppu.mirroring = [.singleLow, .singleHigh, .vertical, .horizontal].getD (v % 4) .singleLow) ∧
    t.wram = s.wram ∧ t.saveRam = s.saveRam ∧ t.ppu.oam = s.ppu.oam ∧ t.ppu.nt = s.ppu.nt

/-- R480, R481, R482, with R415 (mapper 0) and R425 (mapper 1), which both put the last PRG bank at 0xC000: a machine constructed from a
cartridge starts at the word that the last bank holds at its offsets 0x3FFC and 0x3FFD, with the reset register values; with two banks,
PRG bytes 0x7FFC and 0x7FFD. It has the invariant. That the mapper's `init` has run when the machine is constructed is the model's choice
(log entry 12), and so are the values of A, X and Y, the defaults of their parameters (log entry 5). -/
def Obligations.BootVector : Prop :=
  ∀ c : Cart, c.Ok →
    (construct c).Inv ∧
    (construct c).pc = adr (256 * (prgByte c (c.prgBanks - 1) 0x3FFD).toNat + (prgByte c (c.prgBanks - 1) 0x3FFC).toNat) ∧
    (construct c).a = 0 ∧ (construct c).x = 0 ∧ (construct c).y = 0 ∧
    (construct c).sp = 0xFF ∧ (construct c).p = 0x24 ∧ (construct c).cyc = 0 ∧ (construct c).pending = .none ∧
    (c.prgBanks = 2 → (construct c).pc = adr (256 * (Memory.read c.prg 0x7FFD).toNat + (Memory.read c.prg 0x7FFC).toNat))

namespace Sys2Proof.Spec

/-- R410: the fields of the header, as the table gives them. -/
def headerMapper (f : List Byte) : Nat := (f.getD 6 0).toNat / 16 + 16 * ((f.getD 7 0).toNat / 16)
def headerStart (f : List Byte) : Nat := 16 + (if (f.getD 6 0).getLsbD 2 then 512 else 0)

end Sys2Proof.Spec

/-- R410, R411, R413: a load is accepted exactly when the header and the magic are there, the mapper id is 0 or 1, there is a PRG bank,
and there are as many bytes as the header says; the cartridge has the fields that the table gives, a trainer skipped. It then has what
the invariant asks of it. (The ids 0 and 1 are the default of `MAPPER_IDS`, log entry 5, the model's choice.) -/
def Obligations.ImageParsed : Prop :=
  ∀ image : List Byte,
    ((∃ c, parseImage image = .ok c) ↔
      16 ≤ image.length ∧ image.take 4 = [0x4E, 0x45, 0x53, 0x1A] ∧ headerMapper image ∈ [0, 1] ∧ image.getD 4 0 ≠ 0 ∧
      headerStart image + 16384 * (image.getD 4 0).toNat + 8192 * (image.getD 5 0).toNat ≤ image.length) ∧
    ∀ c, parseImage image = .ok c →
      c.prgBanks = (image.getD 4 0).toNat ∧ c.chrBanks = (image.getD 5 0).toNat ∧ c.mapperId = headerMapper image ∧
      c.defaultMirroring = (if (image.getD 6 0).getLsbD 3 then .fourScreen
        else if (image.getD 6 0).getLsbD 0 then .vertical else .horizontal) ∧
      c.battery = (image.getD 6 0).getLsbD 1 ∧ c.trainer = (image.getD 6 0).getLsbD 2 ∧
      (∀ o, o < 16384 * c.prgBanks → Memory.read c.prg o = image.getD (headerStart image + o) 0) ∧
      (∀ o, o < 8192 * c.chrBanks → Memory.read c.chr o = image.getD (headerStart image + 16384 * c.prgBanks + o) 0) ∧
      c.Ok

/-! ## The picture processor (spec/61_ppu.md) -/

namespace Sys2Proof.Spec

/-- A bus address of PPU port `n` (R75). -/
def port (n a : Nat) : Prop := 0x2000 ≤ a ∧ a < 0x4000 ∧ a % 8 = n

/-- R307: what the data port adds to `v`. -/
def portStep (p : Ppu) : Nat := if p.ppuCtrl.getLsbD 2 then 32 else 1

end Sys2Proof.Spec

namespace Sys2Proof.Spec

/-- R359: `LengthTable`. -/
def lengths : List Nat :=
  [10, 254, 20, 2, 40, 4, 80, 6, 160, 8, 60, 10, 14, 12, 26, 14,
   12, 16, 24, 18, 48, 20, 96, 22, 192, 24, 72, 26, 16, 28, 32, 30]

/-- R358, R362, R366: a length counter after a load by `d`, which only an enabled channel makes. -/
def lengthLoaded (enable : Bool) (d n : Byte) : Byte := if enable then byte (lengths.getD (d.toNat / 8) 0) else n

/-- R357, R361: a timer period with its low eight bits written; R358, R362: with its high three. -/
def periodLow (d : Byte) (p : BitVec 11) : BitVec 11 := BitVec.ofNat 11 (256 * (p.toNat / 256) + d.toNat)
def periodHigh (d : Byte) (p : BitVec 11) : BitVec 11 := BitVec.ofNat 11 (256 * (d.toNat % 8) + p.toNat % 256)

/-- R355, R364: the envelope fields of a register 0 write. -/
def envelopeWritten (d : Byte) (e : Envelope) : Envelope :=
  { e with lengthHalt := d.getLsbD 5, constVol := d.getLsbD 4, volume := BitVec.ofNat 4 (d.toNat % 16) }

/-- R355 to R358: a pulse channel after a write to its register `k`. -/
def pulseWritten (k : Nat) (d : Byte) (c : Pulse) : Pulse :=
  if k = 0 then { c with duty := BitVec.ofNat 2 (d.toNat / 64), env := envelopeWritten d c.env }
  else if k = 1 then
    { c with swEnable := d.getLsbD 7, swPeriod := BitVec.ofNat 3 (d.toNat / 16 % 8), swNegate := d.getLsbD 3,
             swShift := BitVec.ofNat 3 (d.toNat % 8), swReload := true }
  else if k = 2 then { c with timerPeriod := periodLow d c.timerPeriod }
  else
    { c with timerPeriod := periodHigh d c.timerPeriod, length := lengthLoaded c.enable d c.length, seqPos := 0,
             env := { c.env with envStart := true } }

/-- R360 to R363: the triangle channel after a write to its register `k`. -/
def triangleWritten (k : Nat) (d : Byte) (c : Triangle) : Triangle :=
  if k = 0 then { c with linControl := d.getLsbD 7, linReloadVal := BitVec.ofNat 7 (d.toNat % 128) }
  else if k = 1 then c
  else if k = 2 then { c with timerPeriod := periodLow d c.timerPeriod }
  else { c with timerPeriod := periodHigh d c.timerPeriod, length := lengthLoaded c.enable d c.length, linReload := true }

/-- R363 to R366: the noise channel after a write to its register `k`. -/
def noiseWritten (k : Nat) (d : Byte) (c : Noise) : Noise :=
  if k = 0 then { c with env := envelopeWritten d c.env }
  else if k = 1 then c
  else if k = 2 then { c with mode := d.getLsbD 7, periodIndex := BitVec.ofNat 4 (d.toNat % 16) }
  else { c with length := lengthLoaded c.enable d c.length, env := { c.env with envStart := true } }

/-- R368 to R371: the DMC after a write to its register `k`. -/
def dmcWritten (k : Nat) (d : Byte) (c : Dmc) : Dmc :=
  if k = 0 then
    { c with irqEnable := d.getLsbD 7, loop := d.getLsbD 6, rateIndex := BitVec.ofNat 4 (d.toNat % 16),
             dmcIrq := c.dmcIrq && d.getLsbD 7 }
  else if k = 1 then { c with level := BitVec.ofNat 7 (d.toNat % 128) }
  else if k = 2 then { c with sampleAddr := adr (0xC000 + 64 * d.toNat) }
  else { c with sampleLen := BitVec.ofNat 12 (16 * d.toNat + 1) }

/-- R372: the channels after a write to 0x4015, before a sample is started. -/
def enablesWritten (d : Byte) (a : Apu) : Apu :=
  { a with
    pulse1 := { a.pulse1 with enable := d.getLsbD 0, length := if d.getLsbD 0 then a.pulse1.length else 0 }
    pulse2 := { a.pulse2 with enable := d.getLsbD 1, length := if d.getLsbD 1 then a.pulse2.length else 0 }
    triangle := { a.triangle with enable := d.getLsbD 2, length := if d.getLsbD 2 then a.triangle.length else 0 }
    noise := { a.noise with enable := d.getLsbD 3, length := if d.getLsbD 3 then a.noise.length else 0 }
    dmc := { a.dmc with enable := d.getLsbD 4, dmcIrq := false, bytesLeft := if d.getLsbD 4 then a.dmc.bytesLeft else 0 } }

/-- R372: a write to 0x4015 that starts a sample: the DMC enabled with nothing left to play. -/
def sampleStarted (d : Byte) (s : State) : State :=
  let a := enablesWritten d s.apu
  { s with apu := { a with dmc := { a.dmc with curAddr := s.apu.dmc.sampleAddr, bytesLeft := s.apu.dmc.sampleLen } } }

/-- R386, R387: the first byte of a sample read from the state `s` into an empty buffer. The last byte restarts a looping sample, and of
another one raises the interrupt when that is enabled. -/
def firstByteRead (s : State) : State :=
  let c := s.apu.dmc
  let m := memRead c.sampleAddr s
  let last := decide (c.sampleLen.toNat = 1)
  let raises := last && !c.loop && c.irqEnable
  { m.2 with
    pending := if raises = true ∧ s.pending = .none then .irq else s.pending
    apu := { m.2.apu with dmc := { c with
      buffer := m.1
      bufferFull := true
      curAddr := if last && c.loop then c.sampleAddr else if c.sampleAddr = 0xFFFF then 0x8000 else adr (c.sampleAddr.toNat + 1)
      bytesLeft := if last && c.loop then c.sampleLen else BitVec.ofNat 12 (c.sampleLen.toNat - 1)
      dmcIrq := raises } } }

/-- R75, R300 to R306, R309: the PPU's ports 0 to 6, at every mirror. -/
def PpuPortEffects (s : State) (d : Byte) : Prop :=
  let p := s.ppu
  let t := p.t.toNat
  (∀ a, port 0 a → memWrite (adr a) d s = { s with ppu := { p with
    ppuCtrl := d, t := BitVec.ofNat 15 (4096 * (t / 4096) + 1024 * (d.toNat % 4) + t % 1024) } }) ∧
  (∀ a, port 1 a → memWrite (adr a) d s = { s with ppu := { p with ppuMask := d } }) ∧
  (∀ a, port 2 a → memWrite (adr a) d s = s) ∧
  (∀ a, port 3 a → memWrite (adr a) d s = { s with ppu := { p with oamAddr := d } }) ∧
  (∀ a, port 4 a → memWrite (adr a) d s = { s with ppu := { p with
    oam := Memory.write p.oam p.oamAddr.toNat d, oamAddr := byte (p.oamAddr.toNat + 1) } }) ∧
  (∀ a, port 5 a → memWrite (adr a) d s = { s with ppu :=
    if p.w then
      { p with t := BitVec.ofNat 15 (4096 * (d.toNat % 8) + 1024 * (t / 1024 % 4) + 32 * (d.toNat / 8) + t % 32), w := false }
    else { p with t := BitVec.ofNat 15 (32 * (t / 32) + d.toNat / 8), x := BitVec.ofNat 3 (d.toNat % 8), w := true } }) ∧
  (∀ a, port 6 a → memWrite (adr a) d s = { s with ppu :=
    if p.w then
      { p with t := BitVec.ofNat 15 (256 * (t / 256) + d.toNat), v := BitVec.ofNat 15 (256 * (t / 256) + d.toNat), w := false }
    else { p with t := BitVec.ofNat 15 (256 * (d.toNat % 64) + t % 256), w := true } }) ∧
  (∀ a, port 2 a →
    (memRead (adr a) s).1.toNat = 128 * p.vblank.toNat + 64 * p.sprite0Hit.toNat + 32 * p.spriteOverflow.toNat ∧
    (memRead (adr a) s).2 = { s with ppu := { p with vblank := false, w := false } }) ∧
  (∀ a, port 4 a → memRead (adr a) s = (Memory.read p.oam p.oamAddr.toNat, s)) ∧
  (∀ a, port 0 a ∨ port 1 a ∨ port 3 a ∨ port 5 a ∨ port 6 a → memRead (adr a) s = (0, s))

/-- R76, R355 to R371: the channel registers 0x4000 to 0x4013, `k` being the register's number in its channel. -/
def ChannelRegisterEffects (s : State) (d : Byte) : Prop :=
  ∀ k, k < 4 →
    memWrite (adr (0x4000 + k)) d s = { s with apu := { s.apu with pulse1 := pulseWritten k d s.apu.pulse1 } } ∧
    memWrite (adr (0x4004 + k)) d s = { s with apu := { s.apu with pulse2 := pulseWritten k d s.apu.pulse2 } } ∧
    memWrite (adr (0x4008 + k)) d s = { s with apu := { s.apu with triangle := triangleWritten k d s.apu.triangle } } ∧
    memWrite (adr (0x400C + k)) d s = { s with apu := { s.apu with noise := noiseWritten k d s.apu.noise } } ∧
    memWrite (adr (0x4010 + k)) d s = { s with apu := { s.apu with dmc := dmcWritten k d s.apu.dmc } }

/-- R76, R372 to R375, R378: the rest of the window 0x4000 to 0x401F, without the sprite DMA: the enables and the status, the sequencer, the
controllers, and the addresses that read 0 or ignore a write. -/
def ApuPortEffects (s : State) (d : Byte) : Prop :=
  let c := s.apu.dmc
  (d.getLsbD 4 = false ∨ c.bytesLeft ≠ 0 → memWrite 0x4015 d s = { s with apu := enablesWritten d s.apu }) ∧
  (d.getLsbD 4 = true → c.bytesLeft = 0 → c.bufferFull = true ∨ c.sampleLen = 0 → memWrite 0x4015 d s = sampleStarted d s) ∧
  (d.getLsbD 4 = true → c.bytesLeft = 0 → c.bufferFull = false → c.sampleLen ≠ 0 →
    memWrite 0x4015 d s = firstByteRead (sampleStarted d s)) ∧
  (memRead 0x4015 s).1.toNat =
    (decide (0 < s.apu.pulse1.length.toNat)).toNat + 2 * (decide (0 < s.apu.pulse2.length.toNat)).toNat +
    4 * (decide (0 < s.apu.triangle.length.toNat)).toNat + 8 * (decide (0 < s.apu.noise.length.toNat)).toNat +
    16 * (decide (0 < c.bytesLeft.toNat)).toNat + 64 * s.apu.frameIrq.toNat + 128 * c.dmcIrq.toNat ∧
  (memRead 0x4015 s).2 = { s with apu := { s.apu with frameIrq := false } } ∧
  memWrite 0x4017 d s = { s with apu := { s.apu with
    seqMode := d.getLsbD 7, frameIrqInhibit := d.getLsbD 6, frameIrq := s.apu.frameIrq && !d.getLsbD 6, seqIndex := 0 } } ∧
  memWrite 0x4016 d s = { s with pads := { s.pads with
    strobe := d.getLsbD 0
    padShift1 := if d.getLsbD 0 then s.pads.buttons1 else s.pads.padShift1
    padShift2 := if d.getLsbD 0 then s.pads.buttons2 else s.pads.padShift2 } } ∧
  memRead 0x4016 s =
    (if s.pads.strobe then (byte (s.pads.buttons1.toNat % 2), { s with pads := { s.pads with padShift1 := s.pads.buttons1 } })
    else (byte (s.pads.padShift1.toNat % 2),
      { s with pads := { s.pads with padShift1 := byte (s.pads.padShift1.toNat / 2 + 128) } })) ∧
  memRead 0x4017 s =
    (if s.pads.strobe then (byte (s.pads.buttons2.toNat % 2), { s with pads := { s.pads with padShift2 := s.pads.buttons2 } })
    else (byte (s.pads.padShift2.toNat % 2),
      { s with pads := { s.pads with padShift2 := byte (s.pads.padShift2.toNat / 2 + 128) } })) ∧
  (∀ a, 0x4018 ≤ a → a < 0x4020 → memWrite (adr a) d s = s) ∧
  (∀ a, 0x4000 ≤ a → a < 0x4020 → a ∉ [0x4015, 0x4016, 0x4017] → memRead (adr a) s = (0, s))

end Sys2Proof.Spec

/-- R75, R76: every port of the PPU but the data port (DataPort) and every port of the APU and I/O window but the sprite DMA (SpriteDma), for
every value written, at every mirror: the whole state after one write or one read, and what the read returns. Two address writes begun
with `w` clear put the 14-bit address into `t` and `v`; two scroll writes put the two positions into `t` and `x` and leave `v` and
the nametable bits alone. That a write to 0x4015 refills the DMC only when it starts a sample is the model's reading (log entry 16,
DEDUCED), and that its interrupt replaces no pending tag the default of `MergePending` (log entry 5, the model's choice). -/
def Obligations.PortEffects : Prop :=
  ∀ (s : State) (d : Byte), s.Inv →
    PpuPortEffects s d ∧ ChannelRegisterEffects s d ∧ ApuPortEffects s d ∧
    (∀ a b e, port 6 a → port 6 b → s.ppu.w = false →
      memWrite (adr b) e (memWrite (adr a) d s) = { s with ppu := { s.ppu with
        t := BitVec.ofNat 15 (256 * (d.toNat % 64) + e.toNat), v := BitVec.ofNat 15 (256 * (d.toNat % 64) + e.toNat),
        w := false } }) ∧
    (∀ a b e, port 5 a → port 5 b → s.ppu.w = false →
      memWrite (adr b) e (memWrite (adr a) d s) = { s with ppu := { s.ppu with
        t := BitVec.ofNat 15
          (d.toNat / 8 + 32 * (e.toNat / 8) + 1024 * (s.ppu.t.toNat / 1024 % 4) + 4096 * (e.toNat % 8)),
        x := BitVec.ofNat 3 (d.toNat % 8), w := false } })

/-- R307, R308: the data port. Below 0x3F00 a read returns the buffer and refills it; from there up it returns the palette byte at
once and fills the buffer from the nametable byte below it. A write stores at `v`, but not below 0x2000 when the cartridge has CHR ROM.
Both advance `v` by 1 or 32. -/
def Obligations.DataPort : Prop :=
  ∀ (s : State) (a : Nat) (d : Byte), s.Inv → port 7 a →
    let at_ := s.ppu.v.toNat % 0x4000
    let v' := BitVec.ofNat 15 (s.ppu.v.toNat + portStep s.ppu)
    memRead (adr a) s =
      (if at_ < 0x3F00 then
        (s.ppu.ppuReadBuf, { s with ppu := { s.ppu with ppuReadBuf := s.ppu.read at_, v := v' } })
      else
        (s.ppu.read at_, { s with ppu := { s.ppu with ppuReadBuf := s.ppu.read (at_ - 0x1000), v := v' } })) ∧
    memWrite (adr a) d s =
      (if at_ < 0x2000 ∧ 0 < s.cart.chrBanks then { s with ppu := { s.ppu with v := v' } }
      else { s with ppu := { s.ppu.write at_ d with v := v' } })

namespace Sys2Proof.Spec

/-- The places of the PPU's memories. -/
inductive VramCell where
  | pattern (i : Nat) | nametable (buffer o : Nat) | palette (i : Nat)
  deriving DecidableEq, Repr

/-- R293, the table: the buffer of logical nametable 0, 1, 2, 3. -/
def nametableBuffers : Mirroring → List Nat
  | .vertical => [0, 1, 0, 1]
  | .horizontal => [0, 0, 1, 1]
  | .singleLow => [0, 0, 0, 0]
  | .singleHigh => [1, 1, 1, 1]
  | .fourScreen => [0, 1, 2, 3]

/-- R291, R293, R294: the place that a PPU address names under a mirroring mode. -/
def vramCell (m : Mirroring) (addr : Nat) : VramCell :=
  let a := addr % 0x4000
  if a < 0x2000 then .pattern a
  else if a < 0x3F00 then .nametable ((nametableBuffers m).getD (a / 1024 % 4) 0) (a % 1024)
  else .palette (if a % 32 ∈ [0x10, 0x14, 0x18, 0x1C] then a % 32 - 16 else a % 32)

end Sys2Proof.Spec

/-- R291, R293, R294: the PPU's address space. A byte written at `a` is read back (six bits of it in the palette) at exactly the addresses
that name the same place, and every other address reads as before; which addresses name one place is the rules' own: 0x3000 to 0x3EFF
mirror 0x2000 to 0x2EFF, the palette repeats every 32 bytes and its sprite backdrops alias the background's, and the four nametables share
buffers as the mirroring mode says, four-screen sharing none. A change of the mode (R298) moves no byte: a place reads the same under every mode
that shows it. -/
def Obligations.VramMirrors : Prop :=
  ∀ (p : Ppu) (a : Nat) (d : Byte),
    (p.write a d).read a = (if a % 0x4000 < 0x3F00 then d else byte (d.toNat % 64)) ∧
    (∀ b, vramCell p.mirroring b = vramCell p.mirroring a → (p.write a d).read b = (p.write a d).read a) ∧
    (∀ b, vramCell p.mirroring b ≠ vramCell p.mirroring a → (p.write a d).read b = p.read b) ∧
    (∀ m n b, vramCell m a = vramCell n b →
      Ppu.read { p with mirroring := m } a = Ppu.read { p with mirroring := n } b) ∧
    p.read (a + 0x4000) = p.read a ∧
    (0x2000 ≤ a → a < 0x2F00 → p.read (a + 0x1000) = p.read a) ∧
    (0x3F00 ≤ a → a < 0x3FE0 → p.read (a + 32) = p.read a) ∧
    (a ∈ [0x3F00, 0x3F04, 0x3F08, 0x3F0C] → p.read (a + 16) = p.read a) ∧
    (p.mirroring = .vertical → 0x2000 ≤ a → a < 0x2800 → p.read (a + 0x800) = p.read a) ∧
    (p.mirroring = .horizontal → (0x2000 ≤ a ∧ a < 0x2400) ∨ (0x2800 ≤ a ∧ a < 0x2C00) →
      p.read (a + 0x400) = p.read a) ∧
    (p.mirroring = .singleLow ∨ p.mirroring = .singleHigh → 0x2000 ≤ a → a < 0x2C00 → p.read (a + 0x400) = p.read a)

/-- R311: the start of a line. With rendering on, line 0 reloads all of `v` from `t` and lines 1 to 239 its horizontal bits; line 0 empties
the sprite line buffer; line 241 sets `vblank` and, when the control register's bit 7 is set, requests nmi; line 261 clears the
three flags. Nothing else changes. -/
def Obligations.PreRenderResult : Prop :=
  ∀ (n : Nat) (s : State), ∃ v,
    (∀ i, i < 15 → v.getLsbD i =
      if (s.ppu.ppuMask.getLsbD 3 || s.ppu.ppuMask.getLsbD 4) = true ∧
          (n = 0 ∨ (1 ≤ n ∧ n ≤ 239 ∧ (i < 5 ∨ i = 10)))
      then s.ppu.t.getLsbD i else s.ppu.v.getLsbD i) ∧
    preRender n s =
      { (if n = 241 ∧ s.ppu.ppuCtrl.getLsbD 7 = true then request .nmi s else s) with ppu := { s.ppu with
          v := v
          spriteLine := if n = 0 then [] else s.ppu.spriteLine
          vblank := if n = 241 then true else if n = 261 then false else s.ppu.vblank
          sprite0Hit := if n = 261 then false else s.ppu.sprite0Hit
          spriteOverflow := if n = 261 then false else s.ppu.spriteOverflow } }

namespace Sys2Proof.Spec

/-- R296: the horizontal scroll position in tiles, over two nametables: coarse X and the horizontal nametable bit. -/
def tileX (v : Nat) : Nat := v % 32 + 32 * (v / 1024 % 2)

/-- R296: the vertical position in pixels inside a nametable: fine Y and coarse Y. -/
def pixelY (v : Nat) : Nat := v / 4096 % 8 + 8 * (v / 32 % 32)

end Sys2Proof.Spec

/-- R317: `IncCoarseX` moves one tile right over the 64 of two nametables; `IncFineY` one pixel down, 239 wrapping to 0 with the vertical
nametable bit flipped, and 255 (coarse Y 31) to 0 without a flip. Every other bit stays. -/
def Obligations.ScrollWrap : Prop :=
  ∀ v : BitVec 15,
    (tileX (Ppu.incCoarseX v).toNat = (tileX v.toNat + 1) % 64 ∧
      (Ppu.incCoarseX v).toNat / 32 % 32 = v.toNat / 32 % 32 ∧ (Ppu.incCoarseX v).toNat / 2048 = v.toNat / 2048) ∧
    (pixelY (Ppu.incFineY v).toNat = (if pixelY v.toNat = 239 then 0 else (pixelY v.toNat + 1) % 256) ∧
      (Ppu.incFineY v).toNat / 2048 % 2 = (if pixelY v.toNat = 239 then 1 - v.toNat / 2048 % 2 else v.toNat / 2048 % 2) ∧
      (Ppu.incFineY v).toNat % 32 = v.toNat % 32 ∧ (Ppu.incFineY v).toNat / 1024 % 2 = v.toNat / 1024 % 2)

/-- R325: on a rendered line the overflow flag becomes set exactly when more than eight of the 64 sprites cover the next line (a set flag
stays set). -/
def Obligations.SpriteOverflow : Prop :=
  ∀ (skip : Bool) (n : Nat) (p : Ppu), n < 240 → (p.ppuMask.getLsbD 3 || p.ppuMask.getLsbD 4) = true →
    let h := if p.ppuCtrl.getLsbD 5 then 16 else 8
    let covers := fun i => decide ((Memory.read p.oam (4 * i)).toNat ≤ n ∧ n < (Memory.read p.oam (4 * i)).toNat + h)
    (p.renderLine skip n).spriteOverflow = (p.spriteOverflow || decide (8 < (List.range 64).countP covers))

/-- R322, R456: in a skip-frame the render of a line does to the PPU exactly what it does in a frame, but the picture stays as it was.
In either, no picture row but the line's own changes. -/
def Obligations.SkipFrameRender : Prop :=
  ∀ (n : Nat) (p : Ppu),
    p.renderLine true n = { p.renderLine false n with frame := p.frame } ∧
    (∀ r c, c < 256 → r + 8 ≠ n → Sparse.read 0 (p.renderLine false n).frame (256 * r + c) = Sparse.read 0 p.frame (256 * r + c))

/-! ## The audio processor, controllers, sprite DMA (spec/62_apu.md) -/

namespace Sys2Proof.Spec

/-- R376, the table's half-frame column. -/
def halfFrame (mode : Bool) (index : Nat) : Bool :=
  if mode then decide (index = 1 ∨ index = 4) else decide (index = 1 ∨ index = 3)

/-- R383: a length counter after a half-frame clock. -/
def lengthAfter (halt : Bool) (n : Nat) : Nat := if halt then n else n - 1

end Sys2Proof.Spec

/-- R376, R383, for every slice size and clock ratio: one sequencer step adds exactly one slice of samples, moves the index round the mode's
sequence and clocks the four length counters on half frames. At the wrap of the 4-step sequence, unless inhibited, it sets `frameIrq` and
requests irq; everywhere else no frame interrupt is raised, and a tag comes from the DMC alone. No CPU register, no cycle, no byte of any
memory changes, and nothing of the PPU or the controllers unless the DMC reads its sample below 0x8000.
A request for irq takes an empty slot only and displaces no pending tag: R252 and R386 with the default of `MergePending`, at which the model
fixes it (log entry 5, the model's choice). -/
def Obligations.SequencerStep : Prop :=
  ∀ (n : Nat) (clocks : Rat) (s : State), s.Inv →
    let t := stepFrameWith n clocks s
    let last := if s.apu.seqMode then 4 else 3
    let h := halfFrame s.apu.seqMode s.apu.seqIndex
    let raises := s.apu.seqIndex = last ∧ s.apu.seqMode = false ∧ s.apu.frameIrqInhibit = false
    (∃ samples, samples.length = n ∧ t.apu.audio = s.apu.audio ++ samples) ∧
    t.apu.seqMode = s.apu.seqMode ∧ t.apu.seqIndex = (s.apu.seqIndex + 1) % (last + 1) ∧
    t.apu.frameIrqInhibit = s.apu.frameIrqInhibit ∧
    (raises → t.apu.frameIrq = true ∧ t.pending ≠ .none) ∧
    (¬ raises → (t.apu.frameIrq = true → s.apu.frameIrq = true) ∧ (t.apu.dmc.dmcIrq = false → t.pending = s.pending)) ∧
    (t.pending = s.pending ∨ (s.pending = .none ∧ t.pending = .irq)) ∧
    t.apu.pulse1.length.toNat =
      (if h then lengthAfter s.apu.pulse1.env.lengthHalt s.apu.pulse1.length.toNat else s.apu.pulse1.length.toNat) ∧
    t.apu.pulse2.length.toNat =
      (if h then lengthAfter s.apu.pulse2.env.lengthHalt s.apu.pulse2.length.toNat else s.apu.pulse2.length.toNat) ∧
    t.apu.triangle.length.toNat =
      (if h then lengthAfter s.apu.triangle.linControl s.apu.triangle.length.toNat else s.apu.triangle.length.toNat) ∧
    t.apu.noise.length.toNat =
      (if h then lengthAfter s.apu.noise.env.lengthHalt s.apu.noise.length.toNat else s.apu.noise.length.toNat) ∧
    t.a = s.a ∧ t.x = s.x ∧ t.y = s.y ∧ t.sp = s.sp ∧ t.p = s.p ∧ t.pc = s.pc ∧ t.cyc = s.cyc ∧
    t.wram = s.wram ∧ t.saveRam = s.saveRam ∧ t.saveDirty = s.saveDirty ∧ t.cart = s.cart ∧ t.busMap = s.busMap ∧
    t.mapper = s.mapper ∧ t.orch = s.orch ∧ t.io = s.io ∧
    t.ppu.pattern = s.ppu.pattern ∧ t.ppu.nt = s.ppu.nt ∧ t.ppu.palette = s.ppu.palette ∧ t.ppu.oam = s.ppu.oam ∧
    t.ppu.spriteLine = s.ppu.spriteLine ∧ t.ppu.frame = s.ppu.frame ∧ t.ppu.mirroring = s.ppu.mirroring ∧
    (0x8000 ≤ s.apu.dmc.curAddr.toNat → 0x8000 ≤ s.apu.dmc.sampleAddr.toNat →
      t.ppu = s.ppu ∧ t.pads = s.pads ∧ t.apu.frameIrq = (s.apu.frameIrq || decide raises))

/-- R378: after the strobe has been raised and lowered, the reads of a pad's port give its eight buttons from bit 0 up, and 1 from then on. -/
def Obligations.PadProtocol : Prop :=
  ∀ (s : State) (k : Nat), s.Inv →
    let s0 := memWrite (adr 0x4016) 0 (memWrite (adr 0x4016) 1 s)
    (memRead (adr 0x4016) (Nat.iterate (fun t => (memRead (adr 0x4016) t).2) k s0)).1 =
      (if s.pads.buttons1.getLsbD k || decide (8 ≤ k) then 1 else 0) ∧
    (memRead (adr 0x4017) (Nat.iterate (fun t => (memRead (adr 0x4017) t).2) k s0)).1 =
      (if s.pads.buttons2.getLsbD k || decide (8 ≤ k) then 1 else 0)

/-- R380: a write of `d` to 0x4014 copies page `d` into OAM from `oamAddr` on, wrapping, and charges 513 cycles; `oamAddr` and everything else
stay. (For the pages that lie in a memory or in the open device, whose reads change nothing.) 513 is the default of `OAM_DMA_CYCLES`
(log entry 5, the model's choice). -/
def Obligations.SpriteDma : Prop :=
  ∀ (s : State) (d : Byte), s.Inv → d.toNat < 0x20 ∨ 0x41 ≤ d.toNat → ∃ oam,
    memWrite (adr 0x4014) d s = { s with ppu := { s.ppu with oam := oam }, cyc := s.cyc + 513 } ∧
    ∀ i, i < 256 → Memory.read oam ((s.ppu.oamAddr.toNat + i) % 256) = peek s (adr (256 * d.toNat + i))

/-! ## The orchestrator (spec/64_orchestrator.md) -/

namespace Sys2Proof.Spec

/-- The state after the host's next request has been taken from the inbox and answered with the empty response. -/
def answered (rest : List Request) (s : State) : State :=
  { s with io := { s.io with inbox := rest, outbox := s.io.outbox ++ [{ pixels := none, audio := none }] } }

end Sys2Proof.Spec

/-- R451, R454, R456, R459, R460, R466: between requests. With nothing to do the machine waits (log entry 4); a halted core answers every
request with the empty response and changes nothing; a reset request only marks the machine; a shutdown saves (with a battery) and halts; a
set-parameter request stores its payload; a storage response fills the save buffer; a skip-frame beyond the cap is dropped (the cap is the
source's 4, `SKIP_CAP`, log entry 5).
(The key of a save is the image itself, as R412 allows: log entry 17, the model's choice.) -/
def Obligations.RequestEffects : Prop :=
  ∀ (s : State), s.orch.phase = .idle →
    (s.io.inbox = [] → step s = .next s) ∧
    (∀ r rest, s.io.inbox = r :: rest → s.orch.halted = true → step s = .next (answered rest s)) ∧
    (∀ rest, s.orch.halted = false → s.io.inbox = .reset :: rest →
      step s = .next { answered rest s with orch := { s.orch with needInit := true, initKind := .reset } }) ∧
    (∀ rest payload, s.orch.halted = false → s.io.inbox = .setParameter payload :: rest →
      step s = .next { answered rest s with orch := { s.orch with param := payload } }) ∧
    (∀ rest payload, s.orch.halted = false → s.io.inbox = .storageResponse payload :: rest → s.cart.battery = true →
      ∃ m, step s = .next { answered rest s with saveRam := m } ∧
        ∀ i, Memory.read m i = if i < 8192 then payload.getD i 0 else 0) ∧
    (∀ rest payload, s.orch.halted = false → s.io.inbox = .storageResponse payload :: rest → s.cart.battery = false →
      step s = .next (answered rest s)) ∧
    (∀ rest p q, s.orch.halted = false → s.io.inbox = .skipFrame p q :: rest → s.orch.skipRun = 4 →
      step s = .next (answered rest s)) ∧
    (∀ rest, s.orch.halted = false → s.io.inbox = .shutdown :: rest → ∃ t, step s = .next t ∧ t.orch.halted = true ∧
      t.io.saves = s.io.saves ++ (if s.cart.battery then [{ key := s.cart.identity, bytes := s.saveRam }] else []) ∧
      t.io.outbox = s.io.outbox ++ [{ pixels := none, audio := none }])

/-- R454, R453, R461, R483: the first frame or skip-frame request after a reset request runs the mapper's `init` and `DoReset`, and then
starts the frame. Work RAM, save RAM, every memory and register of the PPU and the whole of the APU stay as they were, but for what `init`
installs, the two PRG windows with the last bank at 0xC000 (R415, R425), the mirroring, and CHR ROM again in the pattern memory (R53; CHR RAM
stays), and for the audio buffer, emptied for the frame (R455). The CPU starts again from its reset values at the word in the last PRG
bank; the pads' buttons are the request's; a skip-frame counts. A, X and Y are 0 by the defaults of their parameters, and a skip-frame
below 4 is honoured by that of `SKIP_CAP` (log entry 5, the model's choice). -/
def Obligations.ResetRequestFrame : Prop :=
  ∀ (skip : Bool) (s : State) (p q : Option Byte) (rest : List Request), s.Inv →
    s.orch.phase = .idle → s.orch.halted = false → s.orch.needInit = true → s.orch.initKind = .reset →
    s.io.inbox = (if skip then .skipFrame p q else .frame p q) :: rest → (skip = true → s.orch.skipRun < 4) →
    ∃ busMap mapper pattern,
      let t := { s with
        a := 0, x := 0, y := 0, sp := 0xFF, p := 0x24, pending := .none, cyc := 0,
        pc := adr (256 * (prgByte s.cart (s.cart.prgBanks - 1) 0x3FFD).toNat +
          (prgByte s.cart (s.cart.prgBanks - 1) 0x3FFC).toNat),
        busMap := busMap, mapper := mapper,
        ppu := { s.ppu with pattern := pattern, mirroring := s.cart.defaultMirroring },
        apu := { s.apu with audio := [] },
        pads := { s.pads with buttons1 := p.getD s.pads.buttons1, buttons2 := q.getD s.pads.buttons2 },
        orch := { s.orch with needInit := false, line := 0, phase := .lineStart, skipping := skip,
                              skipRun := if skip then s.orch.skipRun + 1 else s.orch.skipRun },
        io := { s.io with inbox := rest } }
      step s = .next t ∧
      showsBanks t 0 (s.cart.prgBanks - 1) ∧ (∀ b, b < 0x8000 → BusMap.lookup busMap b = BusMap.lookup s.busMap b) ∧
      (s.cart.chrBanks = 0 → pattern = s.ppu.pattern) ∧
      (0 < s.cart.chrBanks → ∀ o, o < 8192 → Memory.read pattern o = Memory.read s.cart.chr o) ∧
      (s.cart.mapperId = 0 → mapper = s.mapper) ∧
      (s.cart.mapperId = 1 → mapper.mmcShift = 0 ∧ mapper.mmcCount = 0 ∧ mapper.mmcChr0 = 0 ∧ mapper.mmcChr1 = 0 ∧ mapper.mmcPrg = 0 ∧
        mapper.mmcControl = (if s.cart.defaultMirroring = .vertical then 0x0E
          else if s.cart.defaultMirroring = .horizontal then 0x0F else 0x0C))

namespace Sys2Proof.Spec

/-- A frame end after a frame in which the save window has been written (R78: the dirty counter has moved). -/
def dirtyFrameEnd (s : State) : State := endOfFrameFlush { s with saveDirty := s.saveDirty + 1 }

end Sys2Proof.Spec

/-- R465. With a battery, a write to the save window that no later write follows is saved once, at the 61st frame end: the dirty counter must
stand still for `FLUSH_IDLE_FRAMES` frames after the frame that notices it. A window written in every frame is saved at the 600th frame
end, `FLUSH_FORCE_FRAMES`. Until then nothing is saved. Without a battery a frame end does nothing. The numbers 60 and 600, "roughly" in
the source, are the defaults of the two parameters, at which the model fixes them (log entry 5, the model's choice).
(The key of a save is the image itself, as R412 allows: log entry 17, the model's choice.) -/
def Obligations.SaveFlushed : Prop :=
  ∀ (s : State) (k : Nat),
    (s.cart.battery = true → s.saveDirty ≠ s.orch.lastDirty → s.orch.flushBusy = 0 → k ≤ 61 →
      (Nat.iterate endOfFrameFlush k s).io.saves =
        s.io.saves ++ (if k = 61 then [{ key := s.cart.identity, bytes := s.saveRam }] else [])) ∧
    (s.cart.battery = true → s.saveDirty = s.orch.lastDirty → s.orch.flushBusy = 0 → k ≤ 600 →
      (Nat.iterate dirtyFrameEnd k s).io.saves =
        s.io.saves ++ (if k = 600 then [{ key := s.cart.identity, bytes := s.saveRam }] else [])) ∧
    (s.cart.battery = false → endOfFrameFlush s = s)
end

