-- ==== Sys2Proof/Laws/Bits.lean ====
section
/-! SUPPORT. Laws of the bit-field and byte-order helpers. -/

namespace Sys2Proof.Machine

theorem getLsbD_setField {n k : Nat} (v : BitVec n) (lo : Nat) (f : BitVec k) (j : Nat) (hj : j < n) :
    (setField v lo f).getLsbD j = if lo ≤ j ∧ j < lo + k then f.getLsbD (j - lo) else v.getLsbD j := by
  have e : j - lo < n := by omega
  simp only [setField, BitVec.getLsbD_or, BitVec.getLsbD_and, BitVec.getLsbD_not, BitVec.getLsbD_shiftLeft,
    BitVec.getLsbD_setWidth, BitVec.getLsbD_allOnes, hj, e, decide_true, Bool.true_and]
  by_cases h1 : j < lo
  · have : ¬ (lo ≤ j ∧ j < lo + k) := by omega
    simp [h1, this]
  · by_cases h2 : j < lo + k
    · have h3 : j - lo < k := by omega
      have h4 : lo ≤ j ∧ j < lo + k := by omega
      simp [h1, h3, h4]
    · have h3 : ¬ j - lo < k := by omega
      have h4 : ¬ (lo ≤ j ∧ j < lo + k) := by omega
      have h5 : f.getLsbD (j - lo) = false := BitVec.getLsbD_of_ge f _ (by omega)
      simp [h1, h3, h4, h5]

theorem getLsbD_setBit {n : Nat} (v : BitVec n) (i : Nat) (b : Bool) (j : Nat) (hj : j < n) :
    (setBit v i b).getLsbD j = if j = i then b else v.getLsbD j := by
  rw [setBit, getLsbD_setField _ _ _ _ hj]
  by_cases h : j = i
  · subst h; simp
  · have h1 : ¬ (i ≤ j ∧ j < i + 1) := by omega
    rw [if_neg h1, if_neg h]

theorem toNat_word (h l : Byte) : (word h l).toNat = 256 * h.toNat + l.toNat := by
  have hl := l.isLt
  simp only [word, BitVec.toNat_append]
  rw [Nat.shiftLeft_eq, Nat.mul_comm, ← Nat.two_pow_add_eq_or_of_lt hl]

theorem toNat_hiByte (a : Addr) : (hiByte a).toNat = a.toNat / 256 := by
  have := a.isLt
  simp only [hiByte, BitVec.extractLsb'_toNat, Nat.shiftRight_eq_div_pow]
  omega

theorem toNat_loByte (a : Addr) : (loByte a).toNat = a.toNat % 256 := by
  simp [loByte, BitVec.extractLsb'_toNat]

theorem toNat_zpAddr (z : Byte) : (zpAddr z).toNat = z.toNat := by
  have := z.isLt
  simp only [zpAddr, BitVec.toNat_setWidth]
  omega

@[simp] theorem word_hiByte_loByte (a : Addr) : word (hiByte a) (loByte a) = a := by
  apply BitVec.eq_of_toNat_eq
  rw [toNat_word, toNat_hiByte, toNat_loByte]
  omega

@[simp] theorem hiByte_word (h l : Byte) : hiByte (word h l) = h := by
  apply BitVec.eq_of_toNat_eq
  have := l.isLt
  rw [toNat_hiByte, toNat_word]
  omega

@[simp] theorem loByte_word (h l : Byte) : loByte (word h l) = l := by
  apply BitVec.eq_of_toNat_eq
  have := l.isLt
  rw [toNat_loByte, toNat_word]
  omega

end Sys2Proof.Machine
end

