-- ==== Sys2Proof/Laws/Memory.lean ====
section
/-! SUPPORT. Laws of sparse memories: read after write, the canonical form kept by every operation. -/

namespace Sys2Proof.Machine

variable {α : Type} [DecidableEq α]

namespace Sparse

omit [DecidableEq α] in
theorem erase_cons (c : Nat × α) (m : Sparse α) (a : Nat) :
    erase (c :: m) a = if c.1 = a then erase m a else c :: erase m a := by
  by_cases h : c.1 = a <;> simp [erase, h]

omit [DecidableEq α] in
theorem read_erase_self (z : α) (m : Sparse α) (a : Nat) : read z (erase m a) a = z := by
  induction m with
  | nil => rfl
  | cons c m ih =>
    rw [erase_cons]
    by_cases h : c.1 = a <;> simp [h, read, ih]

omit [DecidableEq α] in
theorem read_erase_other (z : α) (m : Sparse α) {a b : Nat} (hb : b ≠ a) : read z (erase m a) b = read z m b := by
  induction m with
  | nil => rfl
  | cons c m ih =>
    rw [erase_cons]
    by_cases h : c.1 = a
    · have h2 : ¬ c.1 = b := by omega
      simp only [h, if_true, read, ih]
      rw [if_neg (by omega)]
    · simp [h, read, ih]

omit [DecidableEq α] in
theorem read_insert_self (z : α) (m : Sparse α) (a : Nat) (v : α) (h : ∀ c ∈ m, c.1 ≠ a) :
    read z (insert a v m) a = v := by
  induction m with
  | nil => simp [insert, read]
  | cons c m ih =>
    have hc : c.1 ≠ a := h c (by simp)
    simp only [insert]
    split
    · simp [read]
    · simp [read, hc, ih (fun d hd => h d (by simp [hd]))]

omit [DecidableEq α] in
theorem read_insert_other (z : α) (m : Sparse α) {a b : Nat} (v : α) (hb : b ≠ a) :
    read z (insert a v m) b = read z m b := by
  have hab : a ≠ b := fun h => hb h.symm
  induction m with
  | nil => simp [insert, read, hab]
  | cons c m ih =>
    simp only [insert]
    split
    · simp [read, hab]
    · simp [read, ih]

omit [DecidableEq α] in
theorem erase_ne {m : Sparse α} {a : Nat} : ∀ c ∈ erase m a, c.1 ≠ a := by
  intro c hc
  simpa using (List.mem_filter.mp hc).2

/-- A read after a write to the same key gives the value written. -/
@[simp] theorem read_write_self (z : α) (m : Sparse α) (a : Nat) (v : α) : read z (write z m a v) a = v := by
  unfold write
  split
  · rename_i h; rw [h]; exact read_erase_self z m a
  · exact read_insert_self z _ a v erase_ne

/-- A write leaves every other key alone. -/
theorem read_write_other (z : α) (m : Sparse α) {a b : Nat} (v : α) (hb : b ≠ a) :
    read z (write z m a v) b = read z m b := by
  unfold write
  split
  · exact read_erase_other z m hb
  · rw [read_insert_other z _ v hb, read_erase_other z m hb]

theorem read_write (z : α) (m : Sparse α) (a b : Nat) (v : α) :
    read z (write z m a v) b = if b = a then v else read z m b := by
  by_cases h : b = a
  · subst h; simp
  · simp [h, read_write_other z m v h]

/-! ## The canonical form -/

omit [DecidableEq α] in
theorem rising_cons {c : Nat × α} {m : Sparse α} :
    rising (c :: m) = true ↔ (∀ d ∈ m, c.1 < d.1) ∧ rising m = true := by
  induction m generalizing c with
  | nil => simp [rising]
  | cons d m ih =>
    simp only [rising, Bool.and_eq_true, decide_eq_true_eq]
    constructor
    · rintro ⟨h1, h2⟩
      refine ⟨?_, h2⟩
      intro e he
      rcases List.mem_cons.mp he with rfl | he
      · exact h1
      · exact Nat.lt_trans h1 ((ih.mp h2).1 e he)
    · rintro ⟨h1, h2⟩
      exact ⟨h1 d (by simp), h2⟩

omit [DecidableEq α] in
theorem rising_erase {m : Sparse α} {a : Nat} (h : rising m = true) : rising (erase m a) = true := by
  induction m with
  | nil => rfl
  | cons c m ih =>
    have hc := rising_cons.mp h
    have ih' := ih hc.2
    simp only [erase, List.filter_cons] at ih' ⊢
    split
    · rw [rising_cons]
      exact ⟨fun d hd => hc.1 d (List.mem_filter.mp hd).1, ih'⟩
    · exact ih'

omit [DecidableEq α] in
theorem mem_insert {a : Nat} {v : α} {m : Sparse α} {d : Nat × α} : d ∈ insert a v m ↔ d = (a, v) ∨ d ∈ m := by
  induction m with
  | nil => simp [insert]
  | cons c m ih =>
    simp only [insert]
    split
    · simp
    · simp only [List.mem_cons, ih]
      tauto

omit [DecidableEq α] in
theorem rising_insert {m : Sparse α} {a : Nat} {v : α} (h : rising m = true) (hn : ∀ c ∈ m, c.1 ≠ a) :
    rising (insert a v m) = true := by
  induction m with
  | nil => rfl
  | cons c m ih =>
    have hc := rising_cons.mp h
    have hca : c.1 ≠ a := hn c (by simp)
    simp only [insert]
    split
    · rename_i hlt
      rw [rising_cons]
      refine ⟨?_, h⟩
      intro d hd
      rcases List.mem_cons.mp hd with rfl | hd
      · exact hlt
      · exact Nat.lt_trans hlt (hc.1 d hd)
    · rename_i hlt
      rw [rising_cons]
      refine ⟨?_, ih hc.2 (fun d hd => hn d (by simp [hd]))⟩
      intro d hd
      rcases mem_insert.mp hd with rfl | hd
      · show c.1 < a
        omega
      · exact hc.1 d hd

theorem wf_iff {z : α} {size : Nat} {m : Sparse α} :
    wf z size m = true ↔ rising m = true ∧ ∀ c ∈ m, c.1 < size ∧ c.2 ≠ z := by
  simp [wf, List.all_eq_true]

@[simp] theorem wf_nil (z : α) (size : Nat) : wf z size ([] : Sparse α) = true := rfl

/-- A write inside the array keeps the canonical form. -/
theorem wf_write {z : α} {size : Nat} {m : Sparse α} (h : wf z size m = true) {a : Nat} (ha : a < size) (v : α) :
    wf z size (write z m a v) = true := by
  rw [wf_iff] at h ⊢
  have he : ∀ c ∈ erase m a, c.1 < size ∧ c.2 ≠ z := fun c hc => h.2 c (List.mem_filter.mp hc).1
  unfold write
  split
  · exact ⟨rising_erase h.1, he⟩
  · rename_i hv
    refine ⟨rising_insert (rising_erase h.1) erase_ne, ?_⟩
    intro c hc
    rcases mem_insert.mp hc with rfl | hc
    · exact ⟨ha, hv⟩
    · exact he c hc

theorem ofList_ge {z : α} {l : List α} {a : Nat} : ∀ c ∈ ofList z a l, a ≤ c.1 ∧ c.1 < a + l.length ∧ c.2 ≠ z := by
  induction l generalizing a with
  | nil => simp [ofList]
  | cons v vs ih =>
    intro c hc
    simp only [ofList] at hc
    simp only [List.length_cons]
    split at hc
    · have := ih c hc
      exact ⟨by omega, by omega, this.2.2⟩
    · rename_i hv
      rcases List.mem_cons.mp hc with rfl | hc
      · exact ⟨Nat.le_refl _, by simp, hv⟩
      · have := ih c hc
        exact ⟨by omega, by omega, this.2.2⟩

theorem rising_ofList {z : α} {l : List α} {a : Nat} : rising (ofList z a l) = true := by
  induction l generalizing a with
  | nil => rfl
  | cons v vs ih =>
    simp only [ofList]
    split
    · exact ih
    · rw [rising_cons]
      refine ⟨?_, ih⟩
      intro d hd
      have := ofList_ge d hd
      show a < d.1
      omega

/-- A memory made from a list of values is canonical. -/
theorem wf_ofList {z : α} {l : List α} {size : Nat} (h : l.length ≤ size) : wf z size (ofList z 0 l) = true := by
  rw [wf_iff]
  refine ⟨rising_ofList, fun c hc => ?_⟩
  have := ofList_ge c hc
  exact ⟨by omega, this.2.2⟩

omit [DecidableEq α] in
theorem read_of_lt {z : α} {m : Sparse α} {a : Nat} (h : ∀ d ∈ m, a < d.1) : read z m a = z := by
  induction m with
  | nil => rfl
  | cons c m ih =>
    have : c.1 ≠ a := by have := h c (by simp); omega
    simp [read, this, ih (fun d hd => h d (by simp [hd]))]

theorem read_ofList {z : α} {l : List α} {a i : Nat} : read z (ofList z a l) (a + i) = l.getD i z := by
  induction l generalizing a i with
  | nil => simp [ofList, read]
  | cons v vs ih =>
    have hlt : ∀ d ∈ ofList z (a + 1) vs, a < d.1 := by
      intro d hd; have := ofList_ge d hd; omega
    simp only [ofList]
    cases i with
    | zero =>
      split
      · rename_i hv; simp [hv, read_of_lt hlt]
      · simp [read]
    | succ i =>
      have e : a + (i + 1) = (a + 1) + i := by omega
      split
      · rw [e, ih]; simp
      · have h2 : ¬ a = a + (i + 1) := by omega
        simp only [read, h2, if_false]
        rw [e, ih]; simp

end Sparse

namespace Memory

@[simp] theorem read_write_self (m : Memory) (a : Nat) (v : Byte) : read (write m a v) a = v := Sparse.read_write_self 0 m a v

theorem read_write (m : Memory) (a b : Nat) (v : Byte) : read (write m a v) b = if b = a then v else read m b :=
  Sparse.read_write 0 m a b v

theorem wf_write {size : Nat} {m : Memory} (h : wf size m = true) {a : Nat} (ha : a < size) (v : Byte) :
    wf size (write m a v) = true := Sparse.wf_write h ha v

@[simp] theorem wf_nil (size : Nat) : wf size [] = true := rfl

end Memory

end Sys2Proof.Machine
end

