-- ==== Sys2Proof/Laws/State.lean ====
section
/-! SUPPORT. One lemma per field per update of State: what each state update leaves, and what it writes. -/

namespace Sys2Proof.Machine

/-! ### setC -/

@[simp] theorem setC_a (b : Bool) (s : State) : (setC b s).a = s.a := rfl
@[simp] theorem setC_x (b : Bool) (s : State) : (setC b s).x = s.x := rfl
@[simp] theorem setC_y (b : Bool) (s : State) : (setC b s).y = s.y := rfl
@[simp] theorem setC_sp (b : Bool) (s : State) : (setC b s).sp = s.sp := rfl
@[simp] theorem setC_p (b : Bool) (s : State) : (setC b s).p = setBit s.p 0 b := rfl
@[simp] theorem setC_pc (b : Bool) (s : State) : (setC b s).pc = s.pc := rfl
@[simp] theorem setC_pending (b : Bool) (s : State) : (setC b s).pending = s.pending := rfl
@[simp] theorem setC_cyc (b : Bool) (s : State) : (setC b s).cyc = s.cyc := rfl
@[simp] theorem setC_sawUnknownOpcode (b : Bool) (s : State) : (setC b s).sawUnknownOpcode = s.sawUnknownOpcode := rfl
@[simp] theorem setC_wram (b : Bool) (s : State) : (setC b s).wram = s.wram := rfl
@[simp] theorem setC_saveRam (b : Bool) (s : State) : (setC b s).saveRam = s.saveRam := rfl
@[simp] theorem setC_saveDirty (b : Bool) (s : State) : (setC b s).saveDirty = s.saveDirty := rfl
@[simp] theorem setC_busMap (b : Bool) (s : State) : (setC b s).busMap = s.busMap := rfl
@[simp] theorem setC_cart (b : Bool) (s : State) : (setC b s).cart = s.cart := rfl
@[simp] theorem setC_mapper (b : Bool) (s : State) : (setC b s).mapper = s.mapper := rfl
@[simp] theorem setC_ppu (b : Bool) (s : State) : (setC b s).ppu = s.ppu := rfl
@[simp] theorem setC_apu (b : Bool) (s : State) : (setC b s).apu = s.apu := rfl
@[simp] theorem setC_pads (b : Bool) (s : State) : (setC b s).pads = s.pads := rfl
@[simp] theorem setC_orch (b : Bool) (s : State) : (setC b s).orch = s.orch := rfl
@[simp] theorem setC_io (b : Bool) (s : State) : (setC b s).io = s.io := rfl

/-! ### setZ -/

@[simp] theorem setZ_a (b : Bool) (s : State) : (setZ b s).a = s.a := rfl
@[simp] theorem setZ_x (b : Bool) (s : State) : (setZ b s).x = s.x := rfl
@[simp] theorem setZ_y (b : Bool) (s : State) : (setZ b s).y = s.y := rfl
@[simp] theorem setZ_sp (b : Bool) (s : State) : (setZ b s).sp = s.sp := rfl
@[simp] theorem setZ_p (b : Bool) (s : State) : (setZ b s).p = setBit s.p 1 b := rfl
@[simp] theorem setZ_pc (b : Bool) (s : State) : (setZ b s).pc = s.pc := rfl
@[simp] theorem setZ_pending (b : Bool) (s : State) : (setZ b s).pending = s.pending := rfl
@[simp] theorem setZ_cyc (b : Bool) (s : State) : (setZ b s).cyc = s.cyc := rfl
@[simp] theorem setZ_sawUnknownOpcode (b : Bool) (s : State) : (setZ b s).sawUnknownOpcode = s.sawUnknownOpcode := rfl
@[simp] theorem setZ_wram (b : Bool) (s : State) : (setZ b s).wram = s.wram := rfl
@[simp] theorem setZ_saveRam (b : Bool) (s : State) : (setZ b s).saveRam = s.saveRam := rfl
@[simp] theorem setZ_saveDirty (b : Bool) (s : State) : (setZ b s).saveDirty = s.saveDirty := rfl
@[simp] theorem setZ_busMap (b : Bool) (s : State) : (setZ b s).busMap = s.busMap := rfl
@[simp] theorem setZ_cart (b : Bool) (s : State) : (setZ b s).cart = s.cart := rfl
@[simp] theorem setZ_mapper (b : Bool) (s : State) : (setZ b s).mapper = s.mapper := rfl
@[simp] theorem setZ_ppu (b : Bool) (s : State) : (setZ b s).ppu = s.ppu := rfl
@[simp] theorem setZ_apu (b : Bool) (s : State) : (setZ b s).apu = s.apu := rfl
@[simp] theorem setZ_pads (b : Bool) (s : State) : (setZ b s).pads = s.pads := rfl
@[simp] theorem setZ_orch (b : Bool) (s : State) : (setZ b s).orch = s.orch := rfl
@[simp] theorem setZ_io (b : Bool) (s : State) : (setZ b s).io = s.io := rfl

/-! ### setI -/

@[simp] theorem setI_a (b : Bool) (s : State) : (setI b s).a = s.a := rfl
@[simp] theorem setI_x (b : Bool) (s : State) : (setI b s).x = s.x := rfl
@[simp] theorem setI_y (b : Bool) (s : State) : (setI b s).y = s.y := rfl
@[simp] theorem setI_sp (b : Bool) (s : State) : (setI b s).sp = s.sp := rfl
@[simp] theorem setI_p (b : Bool) (s : State) : (setI b s).p = setBit s.p 2 b := rfl
@[simp] theorem setI_pc (b : Bool) (s : State) : (setI b s).pc = s.pc := rfl
@[simp] theorem setI_pending (b : Bool) (s : State) : (setI b s).pending = s.pending := rfl
@[simp] theorem setI_cyc (b : Bool) (s : State) : (setI b s).cyc = s.cyc := rfl
@[simp] theorem setI_sawUnknownOpcode (b : Bool) (s : State) : (setI b s).sawUnknownOpcode = s.sawUnknownOpcode := rfl
@[simp] theorem setI_wram (b : Bool) (s : State) : (setI b s).wram = s.wram := rfl
@[simp] theorem setI_saveRam (b : Bool) (s : State) : (setI b s).saveRam = s.saveRam := rfl
@[simp] theorem setI_saveDirty (b : Bool) (s : State) : (setI b s).saveDirty = s.saveDirty := rfl
@[simp] theorem setI_busMap (b : Bool) (s : State) : (setI b s).busMap = s.busMap := rfl
@[simp] theorem setI_cart (b : Bool) (s : State) : (setI b s).cart = s.cart := rfl
@[simp] theorem setI_mapper (b : Bool) (s : State) : (setI b s).mapper = s.mapper := rfl
@[simp] theorem setI_ppu (b : Bool) (s : State) : (setI b s).ppu = s.ppu := rfl
@[simp] theorem setI_apu (b : Bool) (s : State) : (setI b s).apu = s.apu := rfl
@[simp] theorem setI_pads (b : Bool) (s : State) : (setI b s).pads = s.pads := rfl
@[simp] theorem setI_orch (b : Bool) (s : State) : (setI b s).orch = s.orch := rfl
@[simp] theorem setI_io (b : Bool) (s : State) : (setI b s).io = s.io := rfl

/-! ### setD -/

@[simp] theorem setD_a (b : Bool) (s : State) : (setD b s).a = s.a := rfl
@[simp] theorem setD_x (b : Bool) (s : State) : (setD b s).x = s.x := rfl
@[simp] theorem setD_y (b : Bool) (s : State) : (setD b s).y = s.y := rfl
@[simp] theorem setD_sp (b : Bool) (s : State) : (setD b s).sp = s.sp := rfl
@[simp] theorem setD_p (b : Bool) (s : State) : (setD b s).p = setBit s.p 3 b := rfl
@[simp] theorem setD_pc (b : Bool) (s : State) : (setD b s).pc = s.pc := rfl
@[simp] theorem setD_pending (b : Bool) (s : State) : (setD b s).pending = s.pending := rfl
@[simp] theorem setD_cyc (b : Bool) (s : State) : (setD b s).cyc = s.cyc := rfl
@[simp] theorem setD_sawUnknownOpcode (b : Bool) (s : State) : (setD b s).sawUnknownOpcode = s.sawUnknownOpcode := rfl
@[simp] theorem setD_wram (b : Bool) (s : State) : (setD b s).wram = s.wram := rfl
@[simp] theorem setD_saveRam (b : Bool) (s : State) : (setD b s).saveRam = s.saveRam := rfl
@[simp] theorem setD_saveDirty (b : Bool) (s : State) : (setD b s).saveDirty = s.saveDirty := rfl
@[simp] theorem setD_busMap (b : Bool) (s : State) : (setD b s).busMap = s.busMap := rfl
@[simp] theorem setD_cart (b : Bool) (s : State) : (setD b s).cart = s.cart := rfl
@[simp] theorem setD_mapper (b : Bool) (s : State) : (setD b s).mapper = s.mapper := rfl
@[simp] theorem setD_ppu (b : Bool) (s : State) : (setD b s).ppu = s.ppu := rfl
@[simp] theorem setD_apu (b : Bool) (s : State) : (setD b s).apu = s.apu := rfl
@[simp] theorem setD_pads (b : Bool) (s : State) : (setD b s).pads = s.pads := rfl
@[simp] theorem setD_orch (b : Bool) (s : State) : (setD b s).orch = s.orch := rfl
@[simp] theorem setD_io (b : Bool) (s : State) : (setD b s).io = s.io := rfl

/-! ### setV -/

@[simp] theorem setV_a (b : Bool) (s : State) : (setV b s).a = s.a := rfl
@[simp] theorem setV_x (b : Bool) (s : State) : (setV b s).x = s.x := rfl
@[simp] theorem setV_y (b : Bool) (s : State) : (setV b s).y = s.y := rfl
@[simp] theorem setV_sp (b : Bool) (s : State) : (setV b s).sp = s.sp := rfl
@[simp] theorem setV_p (b : Bool) (s : State) : (setV b s).p = setBit s.p 6 b := rfl
@[simp] theorem setV_pc (b : Bool) (s : State) : (setV b s).pc = s.pc := rfl
@[simp] theorem setV_pending (b : Bool) (s : State) : (setV b s).pending = s.pending := rfl
@[simp] theorem setV_cyc (b : Bool) (s : State) : (setV b s).cyc = s.cyc := rfl
@[simp] theorem setV_sawUnknownOpcode (b : Bool) (s : State) : (setV b s).sawUnknownOpcode = s.sawUnknownOpcode := rfl
@[simp] theorem setV_wram (b : Bool) (s : State) : (setV b s).wram = s.wram := rfl
@[simp] theorem setV_saveRam (b : Bool) (s : State) : (setV b s).saveRam = s.saveRam := rfl
@[simp] theorem setV_saveDirty (b : Bool) (s : State) : (setV b s).saveDirty = s.saveDirty := rfl
@[simp] theorem setV_busMap (b : Bool) (s : State) : (setV b s).busMap = s.busMap := rfl
@[simp] theorem setV_cart (b : Bool) (s : State) : (setV b s).cart = s.cart := rfl
@[simp] theorem setV_mapper (b : Bool) (s : State) : (setV b s).mapper = s.mapper := rfl
@[simp] theorem setV_ppu (b : Bool) (s : State) : (setV b s).ppu = s.ppu := rfl
@[simp] theorem setV_apu (b : Bool) (s : State) : (setV b s).apu = s.apu := rfl
@[simp] theorem setV_pads (b : Bool) (s : State) : (setV b s).pads = s.pads := rfl
@[simp] theorem setV_orch (b : Bool) (s : State) : (setV b s).orch = s.orch := rfl
@[simp] theorem setV_io (b : Bool) (s : State) : (setV b s).io = s.io := rfl

/-! ### setN -/

@[simp] theorem setN_a (b : Bool) (s : State) : (setN b s).a = s.a := rfl
@[simp] theorem setN_x (b : Bool) (s : State) : (setN b s).x = s.x := rfl
@[simp] theorem setN_y (b : Bool) (s : State) : (setN b s).y = s.y := rfl
@[simp] theorem setN_sp (b : Bool) (s : State) : (setN b s).sp = s.sp := rfl
@[simp] theorem setN_p (b : Bool) (s : State) : (setN b s).p = setBit s.p 7 b := rfl
@[simp] theorem setN_pc (b : Bool) (s : State) : (setN b s).pc = s.pc := rfl
@[simp] theorem setN_pending (b : Bool) (s : State) : (setN b s).pending = s.pending := rfl
@[simp] theorem setN_cyc (b : Bool) (s : State) : (setN b s).cyc = s.cyc := rfl
@[simp] theorem setN_sawUnknownOpcode (b : Bool) (s : State) : (setN b s).sawUnknownOpcode = s.sawUnknownOpcode := rfl
@[simp] theorem setN_wram (b : Bool) (s : State) : (setN b s).wram = s.wram := rfl
@[simp] theorem setN_saveRam (b : Bool) (s : State) : (setN b s).saveRam = s.saveRam := rfl
@[simp] theorem setN_saveDirty (b : Bool) (s : State) : (setN b s).saveDirty = s.saveDirty := rfl
@[simp] theorem setN_busMap (b : Bool) (s : State) : (setN b s).busMap = s.busMap := rfl
@[simp] theorem setN_cart (b : Bool) (s : State) : (setN b s).cart = s.cart := rfl
@[simp] theorem setN_mapper (b : Bool) (s : State) : (setN b s).mapper = s.mapper := rfl
@[simp] theorem setN_ppu (b : Bool) (s : State) : (setN b s).ppu = s.ppu := rfl
@[simp] theorem setN_apu (b : Bool) (s : State) : (setN b s).apu = s.apu := rfl
@[simp] theorem setN_pads (b : Bool) (s : State) : (setN b s).pads = s.pads := rfl
@[simp] theorem setN_orch (b : Bool) (s : State) : (setN b s).orch = s.orch := rfl
@[simp] theorem setN_io (b : Bool) (s : State) : (setN b s).io = s.io := rfl

/-! ### setNZ -/

@[simp] theorem setNZ_a (v : Byte) (s : State) : (setNZ v s).a = s.a := rfl
@[simp] theorem setNZ_x (v : Byte) (s : State) : (setNZ v s).x = s.x := rfl
@[simp] theorem setNZ_y (v : Byte) (s : State) : (setNZ v s).y = s.y := rfl
@[simp] theorem setNZ_sp (v : Byte) (s : State) : (setNZ v s).sp = s.sp := rfl
@[simp] theorem setNZ_p (v : Byte) (s : State) : (setNZ v s).p = setBit (setBit s.p 1 (decide (v = 0))) 7 (v.getLsbD 7) := rfl
@[simp] theorem setNZ_pc (v : Byte) (s : State) : (setNZ v s).pc = s.pc := rfl
@[simp] theorem setNZ_pending (v : Byte) (s : State) : (setNZ v s).pending = s.pending := rfl
@[simp] theorem setNZ_cyc (v : Byte) (s : State) : (setNZ v s).cyc = s.cyc := rfl
@[simp] theorem setNZ_sawUnknownOpcode (v : Byte) (s : State) : (setNZ v s).sawUnknownOpcode = s.sawUnknownOpcode := rfl
@[simp] theorem setNZ_wram (v : Byte) (s : State) : (setNZ v s).wram = s.wram := rfl
@[simp] theorem setNZ_saveRam (v : Byte) (s : State) : (setNZ v s).saveRam = s.saveRam := rfl
@[simp] theorem setNZ_saveDirty (v : Byte) (s : State) : (setNZ v s).saveDirty = s.saveDirty := rfl
@[simp] theorem setNZ_busMap (v : Byte) (s : State) : (setNZ v s).busMap = s.busMap := rfl
@[simp] theorem setNZ_cart (v : Byte) (s : State) : (setNZ v s).cart = s.cart := rfl
@[simp] theorem setNZ_mapper (v : Byte) (s : State) : (setNZ v s).mapper = s.mapper := rfl
@[simp] theorem setNZ_ppu (v : Byte) (s : State) : (setNZ v s).ppu = s.ppu := rfl
@[simp] theorem setNZ_apu (v : Byte) (s : State) : (setNZ v s).apu = s.apu := rfl
@[simp] theorem setNZ_pads (v : Byte) (s : State) : (setNZ v s).pads = s.pads := rfl
@[simp] theorem setNZ_orch (v : Byte) (s : State) : (setNZ v s).orch = s.orch := rfl
@[simp] theorem setNZ_io (v : Byte) (s : State) : (setNZ v s).io = s.io := rfl

/-! ### ldaOp -/

@[simp] theorem ldaOp_a (m : Byte) (s : State) : (ldaOp m s).a = m := rfl
@[simp] theorem ldaOp_x (m : Byte) (s : State) : (ldaOp m s).x = s.x := rfl
@[simp] theorem ldaOp_y (m : Byte) (s : State) : (ldaOp m s).y = s.y := rfl
@[simp] theorem ldaOp_sp (m : Byte) (s : State) : (ldaOp m s).sp = s.sp := rfl
@[simp] theorem ldaOp_p (m : Byte) (s : State) : (ldaOp m s).p = (setNZ m s).p := rfl
@[simp] theorem ldaOp_pc (m : Byte) (s : State) : (ldaOp m s).pc = s.pc := rfl
@[simp] theorem ldaOp_pending (m : Byte) (s : State) : (ldaOp m s).pending = s.pending := rfl
@[simp] theorem ldaOp_cyc (m : Byte) (s : State) : (ldaOp m s).cyc = s.cyc := rfl
@[simp] theorem ldaOp_sawUnknownOpcode (m : Byte) (s : State) : (ldaOp m s).sawUnknownOpcode = s.sawUnknownOpcode := rfl
@[simp] theorem ldaOp_wram (m : Byte) (s : State) : (ldaOp m s).wram = s.wram := rfl
@[simp] theorem ldaOp_saveRam (m : Byte) (s : State) : (ldaOp m s).saveRam = s.saveRam := rfl
@[simp] theorem ldaOp_saveDirty (m : Byte) (s : State) : (ldaOp m s).saveDirty = s.saveDirty := rfl
@[simp] theorem ldaOp_busMap (m : Byte) (s : State) : (ldaOp m s).busMap = s.busMap := rfl
@[simp] theorem ldaOp_cart (m : Byte) (s : State) : (ldaOp m s).cart = s.cart := rfl
@[simp] theorem ldaOp_mapper (m : Byte) (s : State) : (ldaOp m s).mapper = s.mapper := rfl
@[simp] theorem ldaOp_ppu (m : Byte) (s : State) : (ldaOp m s).ppu = s.ppu := rfl
@[simp] theorem ldaOp_apu (m : Byte) (s : State) : (ldaOp m s).apu = s.apu := rfl
@[simp] theorem ldaOp_pads (m : Byte) (s : State) : (ldaOp m s).pads = s.pads := rfl
@[simp] theorem ldaOp_orch (m : Byte) (s : State) : (ldaOp m s).orch = s.orch := rfl
@[simp] theorem ldaOp_io (m : Byte) (s : State) : (ldaOp m s).io = s.io := rfl

/-! ### ldxOp -/

@[simp] theorem ldxOp_a (m : Byte) (s : State) : (ldxOp m s).a = s.a := rfl
@[simp] theorem ldxOp_x (m : Byte) (s : State) : (ldxOp m s).x = m := rfl
@[simp] theorem ldxOp_y (m : Byte) (s : State) : (ldxOp m s).y = s.y := rfl
@[simp] theorem ldxOp_sp (m : Byte) (s : State) : (ldxOp m s).sp = s.sp := rfl
@[simp] theorem ldxOp_p (m : Byte) (s : State) : (ldxOp m s).p = (setNZ m s).p := rfl
@[simp] theorem ldxOp_pc (m : Byte) (s : State) : (ldxOp m s).pc = s.pc := rfl
@[simp] theorem ldxOp_pending (m : Byte) (s : State) : (ldxOp m s).pending = s.pending := rfl
@[simp] theorem ldxOp_cyc (m : Byte) (s : State) : (ldxOp m s).cyc = s.cyc := rfl
@[simp] theorem ldxOp_sawUnknownOpcode (m : Byte) (s : State) : (ldxOp m s).sawUnknownOpcode = s.sawUnknownOpcode := rfl
@[simp] theorem ldxOp_wram (m : Byte) (s : State) : (ldxOp m s).wram = s.wram := rfl
@[simp] theorem ldxOp_saveRam (m : Byte) (s : State) : (ldxOp m s).saveRam = s.saveRam := rfl
@[simp] theorem ldxOp_saveDirty (m : Byte) (s : State) : (ldxOp m s).saveDirty = s.saveDirty := rfl
@[simp] theorem ldxOp_busMap (m : Byte) (s : State) : (ldxOp m s).busMap = s.busMap := rfl
@[simp] theorem ldxOp_cart (m : Byte) (s : State) : (ldxOp m s).cart = s.cart := rfl
@[simp] theorem ldxOp_mapper (m : Byte) (s : State) : (ldxOp m s).mapper = s.mapper := rfl
@[simp] theorem ldxOp_ppu (m : Byte) (s : State) : (ldxOp m s).ppu = s.ppu := rfl
@[simp] theorem ldxOp_apu (m : Byte) (s : State) : (ldxOp m s).apu = s.apu := rfl
@[simp] theorem ldxOp_pads (m : Byte) (s : State) : (ldxOp m s).pads = s.pads := rfl
@[simp] theorem ldxOp_orch (m : Byte) (s : State) : (ldxOp m s).orch = s.orch := rfl
@[simp] theorem ldxOp_io (m : Byte) (s : State) : (ldxOp m s).io = s.io := rfl

/-! ### ldyOp -/

@[simp] theorem ldyOp_a (m : Byte) (s : State) : (ldyOp m s).a = s.a := rfl
@[simp] theorem ldyOp_x (m : Byte) (s : State) : (ldyOp m s).x = s.x := rfl
@[simp] theorem ldyOp_y (m : Byte) (s : State) : (ldyOp m s).y = m := rfl
@[simp] theorem ldyOp_sp (m : Byte) (s : State) : (ldyOp m s).sp = s.sp := rfl
@[simp] theorem ldyOp_p (m : Byte) (s : State) : (ldyOp m s).p = (setNZ m s).p := rfl
@[simp] theorem ldyOp_pc (m : Byte) (s : State) : (ldyOp m s).pc = s.pc := rfl
@[simp] theorem ldyOp_pending (m : Byte) (s : State) : (ldyOp m s).pending = s.pending := rfl
@[simp] theorem ldyOp_cyc (m : Byte) (s : State) : (ldyOp m s).cyc = s.cyc := rfl
@[simp] theorem ldyOp_sawUnknownOpcode (m : Byte) (s : State) : (ldyOp m s).sawUnknownOpcode = s.sawUnknownOpcode := rfl
@[simp] theorem ldyOp_wram (m : Byte) (s : State) : (ldyOp m s).wram = s.wram := rfl
@[simp] theorem ldyOp_saveRam (m : Byte) (s : State) : (ldyOp m s).saveRam = s.saveRam := rfl
@[simp] theorem ldyOp_saveDirty (m : Byte) (s : State) : (ldyOp m s).saveDirty = s.saveDirty := rfl
@[simp] theorem ldyOp_busMap (m : Byte) (s : State) : (ldyOp m s).busMap = s.busMap := rfl
@[simp] theorem ldyOp_cart (m : Byte) (s : State) : (ldyOp m s).cart = s.cart := rfl
@[simp] theorem ldyOp_mapper (m : Byte) (s : State) : (ldyOp m s).mapper = s.mapper := rfl
@[simp] theorem ldyOp_ppu (m : Byte) (s : State) : (ldyOp m s).ppu = s.ppu := rfl
@[simp] theorem ldyOp_apu (m : Byte) (s : State) : (ldyOp m s).apu = s.apu := rfl
@[simp] theorem ldyOp_pads (m : Byte) (s : State) : (ldyOp m s).pads = s.pads := rfl
@[simp] theorem ldyOp_orch (m : Byte) (s : State) : (ldyOp m s).orch = s.orch := rfl
@[simp] theorem ldyOp_io (m : Byte) (s : State) : (ldyOp m s).io = s.io := rfl

/-! ### andOp -/

@[simp] theorem andOp_a (m : Byte) (s : State) : (andOp m s).a = s.a &&& m := rfl
@[simp] theorem andOp_x (m : Byte) (s : State) : (andOp m s).x = s.x := rfl
@[simp] theorem andOp_y (m : Byte) (s : State) : (andOp m s).y = s.y := rfl
@[simp] theorem andOp_sp (m : Byte) (s : State) : (andOp m s).sp = s.sp := rfl
@[simp] theorem andOp_p (m : Byte) (s : State) : (andOp m s).p = (setNZ (s.a &&& m) s).p := rfl
@[simp] theorem andOp_pc (m : Byte) (s : State) : (andOp m s).pc = s.pc := rfl
@[simp] theorem andOp_pending (m : Byte) (s : State) : (andOp m s).pending = s.pending := rfl
@[simp] theorem andOp_cyc (m : Byte) (s : State) : (andOp m s).cyc = s.cyc := rfl
@[simp] theorem andOp_sawUnknownOpcode (m : Byte) (s : State) : (andOp m s).sawUnknownOpcode = s.sawUnknownOpcode := rfl
@[simp] theorem andOp_wram (m : Byte) (s : State) : (andOp m s).wram = s.wram := rfl
@[simp] theorem andOp_saveRam (m : Byte) (s : State) : (andOp m s).saveRam = s.saveRam := rfl
@[simp] theorem andOp_saveDirty (m : Byte) (s : State) : (andOp m s).saveDirty = s.saveDirty := rfl
@[simp] theorem andOp_busMap (m : Byte) (s : State) : (andOp m s).busMap = s.busMap := rfl
@[simp] theorem andOp_cart (m : Byte) (s : State) : (andOp m s).cart = s.cart := rfl
@[simp] theorem andOp_mapper (m : Byte) (s : State) : (andOp m s).mapper = s.mapper := rfl
@[simp] theorem andOp_ppu (m : Byte) (s : State) : (andOp m s).ppu = s.ppu := rfl
@[simp] theorem andOp_apu (m : Byte) (s : State) : (andOp m s).apu = s.apu := rfl
@[simp] theorem andOp_pads (m : Byte) (s : State) : (andOp m s).pads = s.pads := rfl
@[simp] theorem andOp_orch (m : Byte) (s : State) : (andOp m s).orch = s.orch := rfl
@[simp] theorem andOp_io (m : Byte) (s : State) : (andOp m s).io = s.io := rfl

/-! ### oraOp -/

@[simp] theorem oraOp_a (m : Byte) (s : State) : (oraOp m s).a = s.a ||| m := rfl
@[simp] theorem oraOp_x (m : Byte) (s : State) : (oraOp m s).x = s.x := rfl
@[simp] theorem oraOp_y (m : Byte) (s : State) : (oraOp m s).y = s.y := rfl
@[simp] theorem oraOp_sp (m : Byte) (s : State) : (oraOp m s).sp = s.sp := rfl
@[simp] theorem oraOp_p (m : Byte) (s : State) : (oraOp m s).p = (setNZ (s.a ||| m) s).p := rfl
@[simp] theorem oraOp_pc (m : Byte) (s : State) : (oraOp m s).pc = s.pc := rfl
@[simp] theorem oraOp_pending (m : Byte) (s : State) : (oraOp m s).pending = s.pending := rfl
@[simp] theorem oraOp_cyc (m : Byte) (s : State) : (oraOp m s).cyc = s.cyc := rfl
@[simp] theorem oraOp_sawUnknownOpcode (m : Byte) (s : State) : (oraOp m s).sawUnknownOpcode = s.sawUnknownOpcode := rfl
@[simp] theorem oraOp_wram (m : Byte) (s : State) : (oraOp m s).wram = s.wram := rfl
@[simp] theorem oraOp_saveRam (m : Byte) (s : State) : (oraOp m s).saveRam = s.saveRam := rfl
@[simp] theorem oraOp_saveDirty (m : Byte) (s : State) : (oraOp m s).saveDirty = s.saveDirty := rfl
@[simp] theorem oraOp_busMap (m : Byte) (s : State) : (oraOp m s).busMap = s.busMap := rfl
@[simp] theorem oraOp_cart (m : Byte) (s : State) : (oraOp m s).cart = s.cart := rfl
@[simp] theorem oraOp_mapper (m : Byte) (s : State) : (oraOp m s).mapper = s.mapper := rfl
@[simp] theorem oraOp_ppu (m : Byte) (s : State) : (oraOp m s).ppu = s.ppu := rfl
@[simp] theorem oraOp_apu (m : Byte) (s : State) : (oraOp m s).apu = s.apu := rfl
@[simp] theorem oraOp_pads (m : Byte) (s : State) : (oraOp m s).pads = s.pads := rfl
@[simp] theorem oraOp_orch (m : Byte) (s : State) : (oraOp m s).orch = s.orch := rfl
@[simp] theorem oraOp_io (m : Byte) (s : State) : (oraOp m s).io = s.io := rfl

/-! ### eorOp -/

@[simp] theorem eorOp_a (m : Byte) (s : State) : (eorOp m s).a = s.a ^^^ m := rfl
@[simp] theorem eorOp_x (m : Byte) (s : State) : (eorOp m s).x = s.x := rfl
@[simp] theorem eorOp_y (m : Byte) (s : State) : (eorOp m s).y = s.y := rfl
@[simp] theorem eorOp_sp (m : Byte) (s : State) : (eorOp m s).sp = s.sp := rfl
@[simp] theorem eorOp_p (m : Byte) (s : State) : (eorOp m s).p = (setNZ (s.a ^^^ m) s).p := rfl
@[simp] theorem eorOp_pc (m : Byte) (s : State) : (eorOp m s).pc = s.pc := rfl
@[simp] theorem eorOp_pending (m : Byte) (s : State) : (eorOp m s).pending = s.pending := rfl
@[simp] theorem eorOp_cyc (m : Byte) (s : State) : (eorOp m s).cyc = s.cyc := rfl
@[simp] theorem eorOp_sawUnknownOpcode (m : Byte) (s : State) : (eorOp m s).sawUnknownOpcode = s.sawUnknownOpcode := rfl
@[simp] theorem eorOp_wram (m : Byte) (s : State) : (eorOp m s).wram = s.wram := rfl
@[simp] theorem eorOp_saveRam (m : Byte) (s : State) : (eorOp m s).saveRam = s.saveRam := rfl
@[simp] theorem eorOp_saveDirty (m : Byte) (s : State) : (eorOp m s).saveDirty = s.saveDirty := rfl
@[simp] theorem eorOp_busMap (m : Byte) (s : State) : (eorOp m s).busMap = s.busMap := rfl
@[simp] theorem eorOp_cart (m : Byte) (s : State) : (eorOp m s).cart = s.cart := rfl
@[simp] theorem eorOp_mapper (m : Byte) (s : State) : (eorOp m s).mapper = s.mapper := rfl
@[simp] theorem eorOp_ppu (m : Byte) (s : State) : (eorOp m s).ppu = s.ppu := rfl
@[simp] theorem eorOp_apu (m : Byte) (s : State) : (eorOp m s).apu = s.apu := rfl
@[simp] theorem eorOp_pads (m : Byte) (s : State) : (eorOp m s).pads = s.pads := rfl
@[simp] theorem eorOp_orch (m : Byte) (s : State) : (eorOp m s).orch = s.orch := rfl
@[simp] theorem eorOp_io (m : Byte) (s : State) : (eorOp m s).io = s.io := rfl

/-! ### adcOp -/

@[simp] theorem adcOp_a (m : Byte) (s : State) : (adcOp m s).a = BitVec.ofNat 8 (adcSum s.a m (carryIn s.p)) := rfl
@[simp] theorem adcOp_x (m : Byte) (s : State) : (adcOp m s).x = s.x := rfl
@[simp] theorem adcOp_y (m : Byte) (s : State) : (adcOp m s).y = s.y := rfl
@[simp] theorem adcOp_sp (m : Byte) (s : State) : (adcOp m s).sp = s.sp := rfl
@[simp] theorem adcOp_pc (m : Byte) (s : State) : (adcOp m s).pc = s.pc := rfl
@[simp] theorem adcOp_pending (m : Byte) (s : State) : (adcOp m s).pending = s.pending := rfl
@[simp] theorem adcOp_cyc (m : Byte) (s : State) : (adcOp m s).cyc = s.cyc := rfl
@[simp] theorem adcOp_sawUnknownOpcode (m : Byte) (s : State) : (adcOp m s).sawUnknownOpcode = s.sawUnknownOpcode := rfl
@[simp] theorem adcOp_wram (m : Byte) (s : State) : (adcOp m s).wram = s.wram := rfl
@[simp] theorem adcOp_saveRam (m : Byte) (s : State) : (adcOp m s).saveRam = s.saveRam := rfl
@[simp] theorem adcOp_saveDirty (m : Byte) (s : State) : (adcOp m s).saveDirty = s.saveDirty := rfl
@[simp] theorem adcOp_busMap (m : Byte) (s : State) : (adcOp m s).busMap = s.busMap := rfl
@[simp] theorem adcOp_cart (m : Byte) (s : State) : (adcOp m s).cart = s.cart := rfl
@[simp] theorem adcOp_mapper (m : Byte) (s : State) : (adcOp m s).mapper = s.mapper := rfl
@[simp] theorem adcOp_ppu (m : Byte) (s : State) : (adcOp m s).ppu = s.ppu := rfl
@[simp] theorem adcOp_apu (m : Byte) (s : State) : (adcOp m s).apu = s.apu := rfl
@[simp] theorem adcOp_pads (m : Byte) (s : State) : (adcOp m s).pads = s.pads := rfl
@[simp] theorem adcOp_orch (m : Byte) (s : State) : (adcOp m s).orch = s.orch := rfl
@[simp] theorem adcOp_io (m : Byte) (s : State) : (adcOp m s).io = s.io := rfl

/-! ### sbcOp -/

@[simp] theorem sbcOp_a (m : Byte) (s : State) : (sbcOp m s).a = BitVec.ofInt 8 (sbcDiff s.a m (carryIn s.p)) := rfl
@[simp] theorem sbcOp_x (m : Byte) (s : State) : (sbcOp m s).x = s.x := rfl
@[simp] theorem sbcOp_y (m : Byte) (s : State) : (sbcOp m s).y = s.y := rfl
@[simp] theorem sbcOp_sp (m : Byte) (s : State) : (sbcOp m s).sp = s.sp := rfl
@[simp] theorem sbcOp_pc (m : Byte) (s : State) : (sbcOp m s).pc = s.pc := rfl
@[simp] theorem sbcOp_pending (m : Byte) (s : State) : (sbcOp m s).pending = s.pending := rfl
@[simp] theorem sbcOp_cyc (m : Byte) (s : State) : (sbcOp m s).cyc = s.cyc := rfl
@[simp] theorem sbcOp_sawUnknownOpcode (m : Byte) (s : State) : (sbcOp m s).sawUnknownOpcode = s.sawUnknownOpcode := rfl
@[simp] theorem sbcOp_wram (m : Byte) (s : State) : (sbcOp m s).wram = s.wram := rfl
@[simp] theorem sbcOp_saveRam (m : Byte) (s : State) : (sbcOp m s).saveRam = s.saveRam := rfl
@[simp] theorem sbcOp_saveDirty (m : Byte) (s : State) : (sbcOp m s).saveDirty = s.saveDirty := rfl
@[simp] theorem sbcOp_busMap (m : Byte) (s : State) : (sbcOp m s).busMap = s.busMap := rfl
@[simp] theorem sbcOp_cart (m : Byte) (s : State) : (sbcOp m s).cart = s.cart := rfl
@[simp] theorem sbcOp_mapper (m : Byte) (s : State) : (sbcOp m s).mapper = s.mapper := rfl
@[simp] theorem sbcOp_ppu (m : Byte) (s : State) : (sbcOp m s).ppu = s.ppu := rfl
@[simp] theorem sbcOp_apu (m : Byte) (s : State) : (sbcOp m s).apu = s.apu := rfl
@[simp] theorem sbcOp_pads (m : Byte) (s : State) : (sbcOp m s).pads = s.pads := rfl
@[simp] theorem sbcOp_orch (m : Byte) (s : State) : (sbcOp m s).orch = s.orch := rfl
@[simp] theorem sbcOp_io (m : Byte) (s : State) : (sbcOp m s).io = s.io := rfl

/-! ### compareOp -/

@[simp] theorem compareOp_a (r m : Byte) (s : State) : (compareOp r m s).a = s.a := rfl
@[simp] theorem compareOp_x (r m : Byte) (s : State) : (compareOp r m s).x = s.x := rfl
@[simp] theorem compareOp_y (r m : Byte) (s : State) : (compareOp r m s).y = s.y := rfl
@[simp] theorem compareOp_sp (r m : Byte) (s : State) : (compareOp r m s).sp = s.sp := rfl
@[simp] theorem compareOp_pc (r m : Byte) (s : State) : (compareOp r m s).pc = s.pc := rfl
@[simp] theorem compareOp_pending (r m : Byte) (s : State) : (compareOp r m s).pending = s.pending := rfl
@[simp] theorem compareOp_cyc (r m : Byte) (s : State) : (compareOp r m s).cyc = s.cyc := rfl
@[simp] theorem compareOp_sawUnknownOpcode (r m : Byte) (s : State) : (compareOp r m s).sawUnknownOpcode = s.sawUnknownOpcode := rfl
@[simp] theorem compareOp_wram (r m : Byte) (s : State) : (compareOp r m s).wram = s.wram := rfl
@[simp] theorem compareOp_saveRam (r m : Byte) (s : State) : (compareOp r m s).saveRam = s.saveRam := rfl
@[simp] theorem compareOp_saveDirty (r m : Byte) (s : State) : (compareOp r m s).saveDirty = s.saveDirty := rfl
@[simp] theorem compareOp_busMap (r m : Byte) (s : State) : (compareOp r m s).busMap = s.busMap := rfl
@[simp] theorem compareOp_cart (r m : Byte) (s : State) : (compareOp r m s).cart = s.cart := rfl
@[simp] theorem compareOp_mapper (r m : Byte) (s : State) : (compareOp r m s).mapper = s.mapper := rfl
@[simp] theorem compareOp_ppu (r m : Byte) (s : State) : (compareOp r m s).ppu = s.ppu := rfl
@[simp] theorem compareOp_apu (r m : Byte) (s : State) : (compareOp r m s).apu = s.apu := rfl
@[simp] theorem compareOp_pads (r m : Byte) (s : State) : (compareOp r m s).pads = s.pads := rfl
@[simp] theorem compareOp_orch (r m : Byte) (s : State) : (compareOp r m s).orch = s.orch := rfl
@[simp] theorem compareOp_io (r m : Byte) (s : State) : (compareOp r m s).io = s.io := rfl

/-! ### bitOp -/

@[simp] theorem bitOp_a (m : Byte) (s : State) : (bitOp m s).a = s.a := rfl
@[simp] theorem bitOp_x (m : Byte) (s : State) : (bitOp m s).x = s.x := rfl
@[simp] theorem bitOp_y (m : Byte) (s : State) : (bitOp m s).y = s.y := rfl
@[simp] theorem bitOp_sp (m : Byte) (s : State) : (bitOp m s).sp = s.sp := rfl
@[simp] theorem bitOp_pc (m : Byte) (s : State) : (bitOp m s).pc = s.pc := rfl
@[simp] theorem bitOp_pending (m : Byte) (s : State) : (bitOp m s).pending = s.pending := rfl
@[simp] theorem bitOp_cyc (m : Byte) (s : State) : (bitOp m s).cyc = s.cyc := rfl
@[simp] theorem bitOp_sawUnknownOpcode (m : Byte) (s : State) : (bitOp m s).sawUnknownOpcode = s.sawUnknownOpcode := rfl
@[simp] theorem bitOp_wram (m : Byte) (s : State) : (bitOp m s).wram = s.wram := rfl
@[simp] theorem bitOp_saveRam (m : Byte) (s : State) : (bitOp m s).saveRam = s.saveRam := rfl
@[simp] theorem bitOp_saveDirty (m : Byte) (s : State) : (bitOp m s).saveDirty = s.saveDirty := rfl
@[simp] theorem bitOp_busMap (m : Byte) (s : State) : (bitOp m s).busMap = s.busMap := rfl
@[simp] theorem bitOp_cart (m : Byte) (s : State) : (bitOp m s).cart = s.cart := rfl
@[simp] theorem bitOp_mapper (m : Byte) (s : State) : (bitOp m s).mapper = s.mapper := rfl
@[simp] theorem bitOp_ppu (m : Byte) (s : State) : (bitOp m s).ppu = s.ppu := rfl
@[simp] theorem bitOp_apu (m : Byte) (s : State) : (bitOp m s).apu = s.apu := rfl
@[simp] theorem bitOp_pads (m : Byte) (s : State) : (bitOp m s).pads = s.pads := rfl
@[simp] theorem bitOp_orch (m : Byte) (s : State) : (bitOp m s).orch = s.orch := rfl
@[simp] theorem bitOp_io (m : Byte) (s : State) : (bitOp m s).io = s.io := rfl

/-! ### addCycles -/

@[simp] theorem addCycles_a (n : Nat) (s : State) : (addCycles n s).a = s.a := rfl
@[simp] theorem addCycles_x (n : Nat) (s : State) : (addCycles n s).x = s.x := rfl
@[simp] theorem addCycles_y (n : Nat) (s : State) : (addCycles n s).y = s.y := rfl
@[simp] theorem addCycles_sp (n : Nat) (s : State) : (addCycles n s).sp = s.sp := rfl
@[simp] theorem addCycles_p (n : Nat) (s : State) : (addCycles n s).p = s.p := rfl
@[simp] theorem addCycles_pc (n : Nat) (s : State) : (addCycles n s).pc = s.pc := rfl
@[simp] theorem addCycles_pending (n : Nat) (s : State) : (addCycles n s).pending = s.pending := rfl
@[simp] theorem addCycles_cyc (n : Nat) (s : State) : (addCycles n s).cyc = s.cyc + n := rfl
@[simp] theorem addCycles_sawUnknownOpcode (n : Nat) (s : State) : (addCycles n s).sawUnknownOpcode = s.sawUnknownOpcode := rfl
@[simp] theorem addCycles_wram (n : Nat) (s : State) : (addCycles n s).wram = s.wram := rfl
@[simp] theorem addCycles_saveRam (n : Nat) (s : State) : (addCycles n s).saveRam = s.saveRam := rfl
@[simp] theorem addCycles_saveDirty (n : Nat) (s : State) : (addCycles n s).saveDirty = s.saveDirty := rfl
@[simp] theorem addCycles_busMap (n : Nat) (s : State) : (addCycles n s).busMap = s.busMap := rfl
@[simp] theorem addCycles_cart (n : Nat) (s : State) : (addCycles n s).cart = s.cart := rfl
@[simp] theorem addCycles_mapper (n : Nat) (s : State) : (addCycles n s).mapper = s.mapper := rfl
@[simp] theorem addCycles_ppu (n : Nat) (s : State) : (addCycles n s).ppu = s.ppu := rfl
@[simp] theorem addCycles_apu (n : Nat) (s : State) : (addCycles n s).apu = s.apu := rfl
@[simp] theorem addCycles_pads (n : Nat) (s : State) : (addCycles n s).pads = s.pads := rfl
@[simp] theorem addCycles_orch (n : Nat) (s : State) : (addCycles n s).orch = s.orch := rfl
@[simp] theorem addCycles_io (n : Nat) (s : State) : (addCycles n s).io = s.io := rfl

/-! ### request -/

@[simp] theorem request_a (k : Tag) (s : State) : (request k s).a = s.a := rfl
@[simp] theorem request_x (k : Tag) (s : State) : (request k s).x = s.x := rfl
@[simp] theorem request_y (k : Tag) (s : State) : (request k s).y = s.y := rfl
@[simp] theorem request_sp (k : Tag) (s : State) : (request k s).sp = s.sp := rfl
@[simp] theorem request_p (k : Tag) (s : State) : (request k s).p = s.p := rfl
@[simp] theorem request_pc (k : Tag) (s : State) : (request k s).pc = s.pc := rfl
@[simp] theorem request_pending (k : Tag) (s : State) : (request k s).pending = mergePending s.pending k := rfl
@[simp] theorem request_cyc (k : Tag) (s : State) : (request k s).cyc = s.cyc := rfl
@[simp] theorem request_sawUnknownOpcode (k : Tag) (s : State) : (request k s).sawUnknownOpcode = s.sawUnknownOpcode := rfl
@[simp] theorem request_wram (k : Tag) (s : State) : (request k s).wram = s.wram := rfl
@[simp] theorem request_saveRam (k : Tag) (s : State) : (request k s).saveRam = s.saveRam := rfl
@[simp] theorem request_saveDirty (k : Tag) (s : State) : (request k s).saveDirty = s.saveDirty := rfl
@[simp] theorem request_busMap (k : Tag) (s : State) : (request k s).busMap = s.busMap := rfl
@[simp] theorem request_cart (k : Tag) (s : State) : (request k s).cart = s.cart := rfl
@[simp] theorem request_mapper (k : Tag) (s : State) : (request k s).mapper = s.mapper := rfl
@[simp] theorem request_ppu (k : Tag) (s : State) : (request k s).ppu = s.ppu := rfl
@[simp] theorem request_apu (k : Tag) (s : State) : (request k s).apu = s.apu := rfl
@[simp] theorem request_pads (k : Tag) (s : State) : (request k s).pads = s.pads := rfl
@[simp] theorem request_orch (k : Tag) (s : State) : (request k s).orch = s.orch := rfl
@[simp] theorem request_io (k : Tag) (s : State) : (request k s).io = s.io := rfl

/-! ### logMsg -/

@[simp] theorem logMsg_a (m : LogMsg) (s : State) : (logMsg m s).a = s.a := rfl
@[simp] theorem logMsg_x (m : LogMsg) (s : State) : (logMsg m s).x = s.x := rfl
@[simp] theorem logMsg_y (m : LogMsg) (s : State) : (logMsg m s).y = s.y := rfl
@[simp] theorem logMsg_sp (m : LogMsg) (s : State) : (logMsg m s).sp = s.sp := rfl
@[simp] theorem logMsg_p (m : LogMsg) (s : State) : (logMsg m s).p = s.p := rfl
@[simp] theorem logMsg_pc (m : LogMsg) (s : State) : (logMsg m s).pc = s.pc := rfl
@[simp] theorem logMsg_pending (m : LogMsg) (s : State) : (logMsg m s).pending = s.pending := rfl
@[simp] theorem logMsg_cyc (m : LogMsg) (s : State) : (logMsg m s).cyc = s.cyc := rfl
@[simp] theorem logMsg_sawUnknownOpcode (m : LogMsg) (s : State) : (logMsg m s).sawUnknownOpcode = s.sawUnknownOpcode := rfl
@[simp] theorem logMsg_wram (m : LogMsg) (s : State) : (logMsg m s).wram = s.wram := rfl
@[simp] theorem logMsg_saveRam (m : LogMsg) (s : State) : (logMsg m s).saveRam = s.saveRam := rfl
@[simp] theorem logMsg_saveDirty (m : LogMsg) (s : State) : (logMsg m s).saveDirty = s.saveDirty := rfl
@[simp] theorem logMsg_busMap (m : LogMsg) (s : State) : (logMsg m s).busMap = s.busMap := rfl
@[simp] theorem logMsg_cart (m : LogMsg) (s : State) : (logMsg m s).cart = s.cart := rfl
@[simp] theorem logMsg_mapper (m : LogMsg) (s : State) : (logMsg m s).mapper = s.mapper := rfl
@[simp] theorem logMsg_ppu (m : LogMsg) (s : State) : (logMsg m s).ppu = s.ppu := rfl
@[simp] theorem logMsg_apu (m : LogMsg) (s : State) : (logMsg m s).apu = s.apu := rfl
@[simp] theorem logMsg_pads (m : LogMsg) (s : State) : (logMsg m s).pads = s.pads := rfl
@[simp] theorem logMsg_orch (m : LogMsg) (s : State) : (logMsg m s).orch = s.orch := rfl

/-! ### resetRegisters -/

@[simp] theorem resetRegisters_a (s : State) : (resetRegisters s).a = Config.resetA := rfl
@[simp] theorem resetRegisters_x (s : State) : (resetRegisters s).x = Config.resetX := rfl
@[simp] theorem resetRegisters_y (s : State) : (resetRegisters s).y = Config.resetY := rfl
@[simp] theorem resetRegisters_sp (s : State) : (resetRegisters s).sp = 0xFF := rfl
@[simp] theorem resetRegisters_p (s : State) : (resetRegisters s).p = 0x24 := rfl
@[simp] theorem resetRegisters_pc (s : State) : (resetRegisters s).pc = s.pc := rfl
@[simp] theorem resetRegisters_pending (s : State) : (resetRegisters s).pending = .none := rfl
@[simp] theorem resetRegisters_cyc (s : State) : (resetRegisters s).cyc = 0 := rfl
@[simp] theorem resetRegisters_sawUnknownOpcode (s : State) : (resetRegisters s).sawUnknownOpcode = s.sawUnknownOpcode := rfl
@[simp] theorem resetRegisters_wram (s : State) : (resetRegisters s).wram = s.wram := rfl
@[simp] theorem resetRegisters_saveRam (s : State) : (resetRegisters s).saveRam = s.saveRam := rfl
@[simp] theorem resetRegisters_saveDirty (s : State) : (resetRegisters s).saveDirty = s.saveDirty := rfl
@[simp] theorem resetRegisters_busMap (s : State) : (resetRegisters s).busMap = s.busMap := rfl
@[simp] theorem resetRegisters_cart (s : State) : (resetRegisters s).cart = s.cart := rfl
@[simp] theorem resetRegisters_mapper (s : State) : (resetRegisters s).mapper = s.mapper := rfl
@[simp] theorem resetRegisters_ppu (s : State) : (resetRegisters s).ppu = s.ppu := rfl
@[simp] theorem resetRegisters_apu (s : State) : (resetRegisters s).apu = s.apu := rfl
@[simp] theorem resetRegisters_pads (s : State) : (resetRegisters s).pads = s.pads := rfl
@[simp] theorem resetRegisters_orch (s : State) : (resetRegisters s).orch = s.orch := rfl
@[simp] theorem resetRegisters_io (s : State) : (resetRegisters s).io = s.io := rfl

/-! ### spendBudget -/

@[simp] theorem spendBudget_a (s : State) : (spendBudget s).a = s.a := by simp only [spendBudget]
@[simp] theorem spendBudget_x (s : State) : (spendBudget s).x = s.x := by simp only [spendBudget]
@[simp] theorem spendBudget_y (s : State) : (spendBudget s).y = s.y := by simp only [spendBudget]
@[simp] theorem spendBudget_sp (s : State) : (spendBudget s).sp = s.sp := by simp only [spendBudget]
@[simp] theorem spendBudget_p (s : State) : (spendBudget s).p = s.p := by simp only [spendBudget]
@[simp] theorem spendBudget_pc (s : State) : (spendBudget s).pc = s.pc := by simp only [spendBudget]
@[simp] theorem spendBudget_pending (s : State) : (spendBudget s).pending = s.pending := by simp only [spendBudget]
@[simp] theorem spendBudget_cyc (s : State) : (spendBudget s).cyc = s.cyc - Config.lineBudget := by simp only [spendBudget]
@[simp] theorem spendBudget_sawUnknownOpcode (s : State) : (spendBudget s).sawUnknownOpcode = s.sawUnknownOpcode := by simp only [spendBudget]
@[simp] theorem spendBudget_wram (s : State) : (spendBudget s).wram = s.wram := by simp only [spendBudget]
@[simp] theorem spendBudget_saveRam (s : State) : (spendBudget s).saveRam = s.saveRam := by simp only [spendBudget]
@[simp] theorem spendBudget_saveDirty (s : State) : (spendBudget s).saveDirty = s.saveDirty := by simp only [spendBudget]
@[simp] theorem spendBudget_busMap (s : State) : (spendBudget s).busMap = s.busMap := by simp only [spendBudget]
@[simp] theorem spendBudget_cart (s : State) : (spendBudget s).cart = s.cart := by simp only [spendBudget]
@[simp] theorem spendBudget_mapper (s : State) : (spendBudget s).mapper = s.mapper := by simp only [spendBudget]
@[simp] theorem spendBudget_ppu (s : State) : (spendBudget s).ppu = s.ppu := by simp only [spendBudget]
@[simp] theorem spendBudget_apu (s : State) : (spendBudget s).apu = s.apu := by simp only [spendBudget]
@[simp] theorem spendBudget_pads (s : State) : (spendBudget s).pads = s.pads := by simp only [spendBudget]
@[simp] theorem spendBudget_orch (s : State) : (spendBudget s).orch = s.orch := by simp only [spendBudget]
@[simp] theorem spendBudget_io (s : State) : (spendBudget s).io = s.io := by simp only [spendBudget]

/-! ### countSkip -/

@[simp] theorem countSkip_a (s : State) : (countSkip s).a = s.a := rfl
@[simp] theorem countSkip_x (s : State) : (countSkip s).x = s.x := rfl
@[simp] theorem countSkip_y (s : State) : (countSkip s).y = s.y := rfl
@[simp] theorem countSkip_sp (s : State) : (countSkip s).sp = s.sp := rfl
@[simp] theorem countSkip_p (s : State) : (countSkip s).p = s.p := rfl
@[simp] theorem countSkip_pc (s : State) : (countSkip s).pc = s.pc := rfl
@[simp] theorem countSkip_pending (s : State) : (countSkip s).pending = s.pending := rfl
@[simp] theorem countSkip_cyc (s : State) : (countSkip s).cyc = s.cyc := rfl
@[simp] theorem countSkip_sawUnknownOpcode (s : State) : (countSkip s).sawUnknownOpcode = s.sawUnknownOpcode := rfl
@[simp] theorem countSkip_wram (s : State) : (countSkip s).wram = s.wram := rfl
@[simp] theorem countSkip_saveRam (s : State) : (countSkip s).saveRam = s.saveRam := rfl
@[simp] theorem countSkip_saveDirty (s : State) : (countSkip s).saveDirty = s.saveDirty := rfl
@[simp] theorem countSkip_busMap (s : State) : (countSkip s).busMap = s.busMap := rfl
@[simp] theorem countSkip_cart (s : State) : (countSkip s).cart = s.cart := rfl
@[simp] theorem countSkip_mapper (s : State) : (countSkip s).mapper = s.mapper := rfl
@[simp] theorem countSkip_ppu (s : State) : (countSkip s).ppu = s.ppu := rfl
@[simp] theorem countSkip_apu (s : State) : (countSkip s).apu = s.apu := rfl
@[simp] theorem countSkip_pads (s : State) : (countSkip s).pads = s.pads := rfl
@[simp] theorem countSkip_orch (s : State) : (countSkip s).orch = { s.orch with skipRun := s.orch.skipRun + 1 } := rfl
@[simp] theorem countSkip_io (s : State) : (countSkip s).io = s.io := rfl

/-! ### setButtons -/

@[simp] theorem setButtons_a (pad1 pad2 : Option Byte) (s : State) : (setButtons pad1 pad2 s).a = s.a := rfl
@[simp] theorem setButtons_x (pad1 pad2 : Option Byte) (s : State) : (setButtons pad1 pad2 s).x = s.x := rfl
@[simp] theorem setButtons_y (pad1 pad2 : Option Byte) (s : State) : (setButtons pad1 pad2 s).y = s.y := rfl
@[simp] theorem setButtons_sp (pad1 pad2 : Option Byte) (s : State) : (setButtons pad1 pad2 s).sp = s.sp := rfl
@[simp] theorem setButtons_p (pad1 pad2 : Option Byte) (s : State) : (setButtons pad1 pad2 s).p = s.p := rfl
@[simp] theorem setButtons_pc (pad1 pad2 : Option Byte) (s : State) : (setButtons pad1 pad2 s).pc = s.pc := rfl
@[simp] theorem setButtons_pending (pad1 pad2 : Option Byte) (s : State) : (setButtons pad1 pad2 s).pending = s.pending := rfl
@[simp] theorem setButtons_cyc (pad1 pad2 : Option Byte) (s : State) : (setButtons pad1 pad2 s).cyc = s.cyc := rfl
@[simp] theorem setButtons_sawUnknownOpcode (pad1 pad2 : Option Byte) (s : State) : (setButtons pad1 pad2 s).sawUnknownOpcode = s.sawUnknownOpcode := rfl
@[simp] theorem setButtons_wram (pad1 pad2 : Option Byte) (s : State) : (setButtons pad1 pad2 s).wram = s.wram := rfl
@[simp] theorem setButtons_saveRam (pad1 pad2 : Option Byte) (s : State) : (setButtons pad1 pad2 s).saveRam = s.saveRam := rfl
@[simp] theorem setButtons_saveDirty (pad1 pad2 : Option Byte) (s : State) : (setButtons pad1 pad2 s).saveDirty = s.saveDirty := rfl
@[simp] theorem setButtons_busMap (pad1 pad2 : Option Byte) (s : State) : (setButtons pad1 pad2 s).busMap = s.busMap := rfl
@[simp] theorem setButtons_cart (pad1 pad2 : Option Byte) (s : State) : (setButtons pad1 pad2 s).cart = s.cart := rfl
@[simp] theorem setButtons_mapper (pad1 pad2 : Option Byte) (s : State) : (setButtons pad1 pad2 s).mapper = s.mapper := rfl
@[simp] theorem setButtons_ppu (pad1 pad2 : Option Byte) (s : State) : (setButtons pad1 pad2 s).ppu = s.ppu := rfl
@[simp] theorem setButtons_apu (pad1 pad2 : Option Byte) (s : State) : (setButtons pad1 pad2 s).apu = s.apu := rfl
@[simp] theorem setButtons_orch (pad1 pad2 : Option Byte) (s : State) : (setButtons pad1 pad2 s).orch = s.orch := rfl
@[simp] theorem setButtons_io (pad1 pad2 : Option Byte) (s : State) : (setButtons pad1 pad2 s).io = s.io := rfl

/-! ### respond -/

@[simp] theorem respond_a (r : Response) (s : State) : (respond r s).a = s.a := rfl
@[simp] theorem respond_x (r : Response) (s : State) : (respond r s).x = s.x := rfl
@[simp] theorem respond_y (r : Response) (s : State) : (respond r s).y = s.y := rfl
@[simp] theorem respond_sp (r : Response) (s : State) : (respond r s).sp = s.sp := rfl
@[simp] theorem respond_p (r : Response) (s : State) : (respond r s).p = s.p := rfl
@[simp] theorem respond_pc (r : Response) (s : State) : (respond r s).pc = s.pc := rfl
@[simp] theorem respond_pending (r : Response) (s : State) : (respond r s).pending = s.pending := rfl
@[simp] theorem respond_cyc (r : Response) (s : State) : (respond r s).cyc = s.cyc := rfl
@[simp] theorem respond_sawUnknownOpcode (r : Response) (s : State) : (respond r s).sawUnknownOpcode = s.sawUnknownOpcode := rfl
@[simp] theorem respond_wram (r : Response) (s : State) : (respond r s).wram = s.wram := rfl
@[simp] theorem respond_saveRam (r : Response) (s : State) : (respond r s).saveRam = s.saveRam := rfl
@[simp] theorem respond_saveDirty (r : Response) (s : State) : (respond r s).saveDirty = s.saveDirty := rfl
@[simp] theorem respond_busMap (r : Response) (s : State) : (respond r s).busMap = s.busMap := rfl
@[simp] theorem respond_cart (r : Response) (s : State) : (respond r s).cart = s.cart := rfl
@[simp] theorem respond_mapper (r : Response) (s : State) : (respond r s).mapper = s.mapper := rfl
@[simp] theorem respond_ppu (r : Response) (s : State) : (respond r s).ppu = s.ppu := rfl
@[simp] theorem respond_apu (r : Response) (s : State) : (respond r s).apu = s.apu := rfl
@[simp] theorem respond_pads (r : Response) (s : State) : (respond r s).pads = s.pads := rfl
@[simp] theorem respond_orch (r : Response) (s : State) : (respond r s).orch = s.orch := rfl

/-! ### saveNow -/

@[simp] theorem saveNow_a (s : State) : (saveNow s).a = s.a := rfl
@[simp] theorem saveNow_x (s : State) : (saveNow s).x = s.x := rfl
@[simp] theorem saveNow_y (s : State) : (saveNow s).y = s.y := rfl
@[simp] theorem saveNow_sp (s : State) : (saveNow s).sp = s.sp := rfl
@[simp] theorem saveNow_p (s : State) : (saveNow s).p = s.p := rfl
@[simp] theorem saveNow_pc (s : State) : (saveNow s).pc = s.pc := rfl
@[simp] theorem saveNow_pending (s : State) : (saveNow s).pending = s.pending := rfl
@[simp] theorem saveNow_cyc (s : State) : (saveNow s).cyc = s.cyc := rfl
@[simp] theorem saveNow_sawUnknownOpcode (s : State) : (saveNow s).sawUnknownOpcode = s.sawUnknownOpcode := rfl
@[simp] theorem saveNow_wram (s : State) : (saveNow s).wram = s.wram := rfl
@[simp] theorem saveNow_saveRam (s : State) : (saveNow s).saveRam = s.saveRam := rfl
@[simp] theorem saveNow_saveDirty (s : State) : (saveNow s).saveDirty = s.saveDirty := rfl
@[simp] theorem saveNow_busMap (s : State) : (saveNow s).busMap = s.busMap := rfl
@[simp] theorem saveNow_cart (s : State) : (saveNow s).cart = s.cart := rfl
@[simp] theorem saveNow_mapper (s : State) : (saveNow s).mapper = s.mapper := rfl
@[simp] theorem saveNow_ppu (s : State) : (saveNow s).ppu = s.ppu := rfl
@[simp] theorem saveNow_apu (s : State) : (saveNow s).apu = s.apu := rfl
@[simp] theorem saveNow_pads (s : State) : (saveNow s).pads = s.pads := rfl
@[simp] theorem saveNow_orch (s : State) : (saveNow s).orch = s.orch := rfl

/-! ### renderLine -/

@[simp] theorem renderLine_a (n : Nat) (s : State) : (renderLine n s).a = s.a := rfl
@[simp] theorem renderLine_x (n : Nat) (s : State) : (renderLine n s).x = s.x := rfl
@[simp] theorem renderLine_y (n : Nat) (s : State) : (renderLine n s).y = s.y := rfl
@[simp] theorem renderLine_sp (n : Nat) (s : State) : (renderLine n s).sp = s.sp := rfl
@[simp] theorem renderLine_p (n : Nat) (s : State) : (renderLine n s).p = s.p := rfl
@[simp] theorem renderLine_pc (n : Nat) (s : State) : (renderLine n s).pc = s.pc := rfl
@[simp] theorem renderLine_pending (n : Nat) (s : State) : (renderLine n s).pending = s.pending := rfl
@[simp] theorem renderLine_cyc (n : Nat) (s : State) : (renderLine n s).cyc = s.cyc := rfl
@[simp] theorem renderLine_sawUnknownOpcode (n : Nat) (s : State) : (renderLine n s).sawUnknownOpcode = s.sawUnknownOpcode := rfl
@[simp] theorem renderLine_wram (n : Nat) (s : State) : (renderLine n s).wram = s.wram := rfl
@[simp] theorem renderLine_saveRam (n : Nat) (s : State) : (renderLine n s).saveRam = s.saveRam := rfl
@[simp] theorem renderLine_saveDirty (n : Nat) (s : State) : (renderLine n s).saveDirty = s.saveDirty := rfl
@[simp] theorem renderLine_busMap (n : Nat) (s : State) : (renderLine n s).busMap = s.busMap := rfl
@[simp] theorem renderLine_cart (n : Nat) (s : State) : (renderLine n s).cart = s.cart := rfl
@[simp] theorem renderLine_mapper (n : Nat) (s : State) : (renderLine n s).mapper = s.mapper := rfl
@[simp] theorem renderLine_ppu (n : Nat) (s : State) : (renderLine n s).ppu = s.ppu.renderLine s.orch.skipping n := rfl
@[simp] theorem renderLine_apu (n : Nat) (s : State) : (renderLine n s).apu = s.apu := rfl
@[simp] theorem renderLine_pads (n : Nat) (s : State) : (renderLine n s).pads = s.pads := rfl
@[simp] theorem renderLine_orch (n : Nat) (s : State) : (renderLine n s).orch = s.orch := rfl
@[simp] theorem renderLine_io (n : Nat) (s : State) : (renderLine n s).io = s.io := rfl

end Sys2Proof.Machine
end

