-- ==== Sys2Proof/Laws/Bus.lean ====
section
/-! SUPPORT. Laws of the bus: the range table (R28, R71, R85), and what a bus read and a bus write can change. -/

namespace Sys2Proof.Machine

/-! ## The range table -/

namespace BusMap

/-- Does some range hold the address? -/
def hit (m : List BusRange) (a : Nat) : Bool := m.any (fun r => holds r a)

theorem lookup_append (m k : List BusRange) (a : Nat) :
    lookup (m ++ k) a = if hit m a then lookup m a else lookup k a := by
  induction m with
  | nil => simp [hit]
  | cons r m ih =>
    simp only [hit, List.any_cons, List.cons_append, lookup] at ih ⊢
    by_cases h : holds r a <;> simp [h, ih]

theorem lookup_of_not_hit {m : List BusRange} {a : Nat} (h : hit m a = false) : lookup m a = (.openDev, 0) := by
  induction m with
  | nil => rfl
  | cons r m ih =>
    simp only [hit, List.any_cons, Bool.or_eq_false_iff] at h
    simp [lookup, h.1, ih (by simpa [hit] using h.2)]

theorem lookup_below {m : List BusRange} {s a : Nat} (h : a < s) : lookup (m.flatMap (below s)) a = lookup m a ∧
    hit (m.flatMap (below s)) a = hit m a := by
  induction m with
  | nil => simp [lookup, hit]
  | cons r m ih =>
    rw [List.flatMap_cons, lookup_append]
    have e : holds r a = hit (below s r) a := by
      simp only [hit, below, holds]
      split
      · have : a ≤ min r.hi (s - 1) ↔ a ≤ r.hi := by omega
        simp only [List.any_cons, List.any_nil, this, Bool.or_false]
      · have : ¬ r.lo ≤ a := by omega
        simp [this]
    have e2 : hit (below s r) a = true → lookup (below s r) a = (r.dev, a - r.org) := by
      simp only [hit, below]
      split <;> simp +contextual [lookup]
    constructor
    · by_cases hr : hit (below s r) a
      · simp [hr, e2 hr, lookup, e]
      · simp [hr, lookup, e, ih.1]
    · have : hit (below s r ++ m.flatMap (below s)) a = (hit (below s r) a || hit (m.flatMap (below s)) a) := by
        simp [hit]
      rw [this, ih.2, ← e]; simp [hit]

theorem lookup_above {m : List BusRange} {e a : Nat} (h : e < a) : lookup (m.flatMap (above e)) a = lookup m a := by
  induction m with
  | nil => rfl
  | cons r m ih =>
    rw [List.flatMap_cons, lookup_append, ih]
    by_cases hr : e < r.hi
    · by_cases h2 : r.lo ≤ a ∧ a ≤ r.hi
      · have h3 : max r.lo (e + 1) ≤ a := by omega
        have h4 : e + 1 ≤ a := by omega
        simp [above, hr, hit, holds, lookup, h2, h4]
      · have h3 : ¬ (max r.lo (e + 1) ≤ a ∧ a ≤ r.hi) := by omega
        have h4 : (decide (r.lo ≤ a) && decide (a ≤ r.hi)) = false := by
          by_cases hl : r.lo ≤ a <;> simp_all
        have h5 : (decide (max r.lo (e + 1) ≤ a) && decide (a ≤ r.hi)) = false := by
          by_cases hl : max r.lo (e + 1) ≤ a
          · have : ¬ a ≤ r.hi := fun q => h3 ⟨hl, q⟩
            simp [this]
          · simp only [hl, decide_false, Bool.false_and]
        simp only [above, hr, if_true, hit, List.any_cons, List.any_nil, holds, h5, lookup, h4]
        simp
    · have h2 : ¬ (a ≤ r.hi) := by omega
      simp [above, hr, hit, holds, lookup, h2]

theorem not_hit_below {m : List BusRange} {s a : Nat} (h : s ≤ a) : hit (m.flatMap (below s)) a = false := by
  induction m with
  | nil => rfl
  | cons r m ih =>
    have e : hit (below s r) a = false := by
      simp only [hit, below, holds]
      split
      · have : ¬ a ≤ min r.hi (s - 1) := by omega
        simp; omega
      · rfl
    have : hit (below s r ++ m.flatMap (below s)) a = (hit (below s r) a || hit (m.flatMap (below s)) a) := by
      simp [hit]
    rw [List.flatMap_cons, this, e, ih]; rfl

theorem not_hit_above {m : List BusRange} {e a : Nat} (h : a ≤ e) : hit (m.flatMap (above e)) a = false := by
  induction m with
  | nil => rfl
  | cons r m ih =>
    have h1 : hit (above e r) a = false := by
      simp only [hit, above, holds]
      split
      · simp; omega
      · rfl
    have : hit (above e r ++ m.flatMap (above e)) a = (hit (above e r) a || hit (m.flatMap (above e)) a) := by
      simp [hit]
    rw [List.flatMap_cons, this, h1, ih]; rfl

/-- R28: ranges in order covering exactly the addresses from `a` up to, not including, `b`. -/
def covers (a b : Nat) : List BusRange → Bool
  | [] => decide (a = b)
  | r :: m => decide (r.lo = a) && decide (r.lo ≤ r.hi) && covers (r.hi + 1) b m

theorem coversFrom_eq (a : Nat) (m : List BusRange) : coversFrom a m = covers a 0x10000 m := by
  induction m generalizing a with
  | nil => rfl
  | cons r m ih => simp [coversFrom, covers, ih]

theorem covers_le {a b : Nat} {m : List BusRange} (h : covers a b m = true) : a ≤ b := by
  induction m generalizing a with
  | nil => simp [covers] at h; omega
  | cons r m ih =>
    simp only [covers, Bool.and_eq_true, decide_eq_true_eq] at h
    have := ih h.2
    omega

theorem covers_append {a b c : Nat} {m k : List BusRange} (h : covers a b m = true) (h2 : covers b c k = true) :
    covers a c (m ++ k) = true := by
  induction m generalizing a with
  | nil => simp [covers] at h; subst h; exact h2
  | cons r m ih =>
    simp only [List.cons_append, covers, Bool.and_eq_true, decide_eq_true_eq] at h ⊢
    exact ⟨h.1, ih h.2⟩

theorem flatMap_below_nil {a b s : Nat} {m : List BusRange} (h : covers a b m = true) (hs : s ≤ a) :
    m.flatMap (below s) = [] := by
  induction m generalizing a with
  | nil => rfl
  | cons r m ih =>
    simp only [covers, Bool.and_eq_true, decide_eq_true_eq] at h
    have h1 : ¬ r.lo < s := by omega
    rw [List.flatMap_cons, ih h.2 (by omega)]
    simp [below, h1]

theorem covers_below {a b s : Nat} {m : List BusRange} (h : covers a b m = true) (ha : a ≤ s) (hb : s ≤ b) :
    covers a s (m.flatMap (below s)) = true := by
  induction m generalizing a with
  | nil => simp [covers] at h ⊢; omega
  | cons r m ih =>
    simp only [covers, Bool.and_eq_true, decide_eq_true_eq] at h
    obtain ⟨⟨h1, h2⟩, h3⟩ := h
    rw [List.flatMap_cons]
    by_cases hlt : r.lo < s
    · by_cases hh : r.hi + 1 ≤ s
      · have e : min r.hi (s - 1) = r.hi := by omega
        simp only [below, hlt, if_true, List.singleton_append, covers, e, Bool.and_eq_true, decide_eq_true_eq]
        exact ⟨⟨h1, h2⟩, ih h3 hh⟩
      · have e : min r.hi (s - 1) = s - 1 := by omega
        rw [flatMap_below_nil h3 (by omega)]
        simp only [below, hlt, if_true, List.append_nil, covers, e, Bool.and_eq_true, decide_eq_true_eq]
        omega
    · rw [flatMap_below_nil h3 (by omega)]
      obtain rfl : s = a := by omega
      simp [below, hlt, covers]

theorem covers_above {a b e : Nat} {m : List BusRange} (h : covers a b m = true) (hb : e < b) :
    covers (max a (e + 1)) b (m.flatMap (above e)) = true := by
  induction m generalizing a with
  | nil => simp [covers] at h ⊢; omega
  | cons r m ih =>
    simp only [covers, Bool.and_eq_true, decide_eq_true_eq] at h
    obtain ⟨⟨h1, h2⟩, h3⟩ := h
    rw [List.flatMap_cons]
    have ih' := ih h3
    by_cases hlt : e < r.hi
    · have e2 : max (r.hi + 1) (e + 1) = r.hi + 1 := by omega
      rw [e2] at ih'
      simp only [above, hlt, if_true, List.singleton_append, covers, Bool.and_eq_true, decide_eq_true_eq]
      exact ⟨⟨by omega, by omega⟩, ih'⟩
    · have e2 : max (r.hi + 1) (e + 1) = max a (e + 1) := by
        have := covers_le h3; omega
      rw [e2] at ih'
      simpa [above, hlt] using ih'

/-- R85: an address inside the new range belongs to the new device, an address outside it where it belonged before. -/
theorem lookup_mapRange {m : List BusRange} {dev : Device} {s e a : Nat} (h : s ≤ e) :
    lookup (mapRange dev s e m) a = if s ≤ a ∧ a ≤ e then (dev, a - s) else lookup m a := by
  unfold mapRange
  rw [lookup_append]
  by_cases h1 : a < s
  · have h2 : ¬ (s ≤ a ∧ a ≤ e) := by omega
    have h3 : ¬ s ≤ a := by omega
    rw [(lookup_below h1).1, (lookup_below h1).2, if_neg h2]
    by_cases hm : hit m a
    · simp [hm]
    · have hm : hit m a = false := by simpa using hm
      rw [lookup_of_not_hit hm]
      simp only [hm, lookup, holds, h3, decide_false, Bool.false_and, Bool.false_eq_true, if_false]
      exact lookup_of_not_hit (not_hit_above (by omega))
  · rw [not_hit_below (by omega)]
    by_cases h4 : a ≤ e
    · have h5 : s ≤ a := by omega
      simp [lookup, holds, h4, h5]
    · have h2 : ¬ (s ≤ a ∧ a ≤ e) := by omega
      simp [lookup, holds, h4, lookup_above (show e < a by omega)]

/-- R85: the table stays a partition. -/
theorem partition_mapRange {m : List BusRange} {dev : Device} {s e : Nat} (hm : partition m = true) (h : s ≤ e)
    (he : e < 0x10000) : partition (mapRange dev s e m) = true := by
  unfold partition at hm ⊢
  rw [coversFrom_eq] at hm ⊢
  unfold mapRange
  refine covers_append (covers_below hm (Nat.zero_le s) (by omega)) ?_
  have := covers_above (e := e) hm he
  rw [Nat.zero_max] at this
  simp [covers, h, this]

end BusMap

/-! ## What a bus access can change -/

/-- R72: a device read changes nothing outside the PPU, the APU and the controllers. -/
theorem deviceRead_frame (dev : Device) (n : Nat) (s : State) : ∃ ppu apu pads,
    (deviceRead dev n s).2 = { s with ppu := ppu, apu := apu, pads := pads } := by
  cases dev with
  | apuIo =>
    simp only [deviceRead, apuRead]
    split
    · exact ⟨_, _, _, rfl⟩
    split
    · exact ⟨_, _, _, rfl⟩
    split
    · exact ⟨_, _, _, rfl⟩
    · exact ⟨_, _, _, rfl⟩
  | _ => exact ⟨_, _, _, rfl⟩

theorem memRead_frame (a : Addr) (s : State) : ∃ ppu apu pads,
    (memRead a s).2 = { s with ppu := ppu, apu := apu, pads := pads } := deviceRead_frame _ _ s

/-- R72, R373: in the APU a read can change the frame interrupt flag only. -/
theorem memRead_apu (a : Addr) (s : State) : ∃ f, (memRead a s).2.apu = { s.apu with frameIrq := f } := by
  unfold memRead deviceRead apuRead
  dsimp only
  repeat' split
  all_goals exact ⟨_, rfl⟩

@[simp] theorem memRead_dmc (a : Addr) (s : State) : (memRead a s).2.apu.dmc = s.apu.dmc := by
  obtain ⟨_, h⟩ := memRead_apu a s; rw [h]

/-! ### A read leaves every field but the three devices -/

@[simp] theorem memRead_a (a : Addr) (s : State) : (memRead a s).2.a = s.a := by
  obtain ⟨_, _, _, h⟩ := memRead_frame a s; rw [h]
@[simp] theorem memRead_x (a : Addr) (s : State) : (memRead a s).2.x = s.x := by
  obtain ⟨_, _, _, h⟩ := memRead_frame a s; rw [h]
@[simp] theorem memRead_y (a : Addr) (s : State) : (memRead a s).2.y = s.y := by
  obtain ⟨_, _, _, h⟩ := memRead_frame a s; rw [h]
@[simp] theorem memRead_sp (a : Addr) (s : State) : (memRead a s).2.sp = s.sp := by
  obtain ⟨_, _, _, h⟩ := memRead_frame a s; rw [h]
@[simp] theorem memRead_p (a : Addr) (s : State) : (memRead a s).2.p = s.p := by
  obtain ⟨_, _, _, h⟩ := memRead_frame a s; rw [h]
@[simp] theorem memRead_pc (a : Addr) (s : State) : (memRead a s).2.pc = s.pc := by
  obtain ⟨_, _, _, h⟩ := memRead_frame a s; rw [h]
@[simp] theorem memRead_pending (a : Addr) (s : State) : (memRead a s).2.pending = s.pending := by
  obtain ⟨_, _, _, h⟩ := memRead_frame a s; rw [h]
@[simp] theorem memRead_cyc (a : Addr) (s : State) : (memRead a s).2.cyc = s.cyc := by
  obtain ⟨_, _, _, h⟩ := memRead_frame a s; rw [h]
@[simp] theorem memRead_sawUnknownOpcode (a : Addr) (s : State) : (memRead a s).2.sawUnknownOpcode = s.sawUnknownOpcode := by
  obtain ⟨_, _, _, h⟩ := memRead_frame a s; rw [h]
@[simp] theorem memRead_wram (a : Addr) (s : State) : (memRead a s).2.wram = s.wram := by
  obtain ⟨_, _, _, h⟩ := memRead_frame a s; rw [h]
@[simp] theorem memRead_saveRam (a : Addr) (s : State) : (memRead a s).2.saveRam = s.saveRam := by
  obtain ⟨_, _, _, h⟩ := memRead_frame a s; rw [h]
@[simp] theorem memRead_saveDirty (a : Addr) (s : State) : (memRead a s).2.saveDirty = s.saveDirty := by
  obtain ⟨_, _, _, h⟩ := memRead_frame a s; rw [h]
@[simp] theorem memRead_busMap (a : Addr) (s : State) : (memRead a s).2.busMap = s.busMap := by
  obtain ⟨_, _, _, h⟩ := memRead_frame a s; rw [h]
@[simp] theorem memRead_cart (a : Addr) (s : State) : (memRead a s).2.cart = s.cart := by
  obtain ⟨_, _, _, h⟩ := memRead_frame a s; rw [h]
@[simp] theorem memRead_mapper (a : Addr) (s : State) : (memRead a s).2.mapper = s.mapper := by
  obtain ⟨_, _, _, h⟩ := memRead_frame a s; rw [h]
@[simp] theorem memRead_orch (a : Addr) (s : State) : (memRead a s).2.orch = s.orch := by
  obtain ⟨_, _, _, h⟩ := memRead_frame a s; rw [h]
@[simp] theorem memRead_io (a : Addr) (s : State) : (memRead a s).2.io = s.io := by
  obtain ⟨_, _, _, h⟩ := memRead_frame a s; rw [h]

@[simp] theorem memRead16_a (a : Addr) (s : State) : (memRead16 a s).2.a = s.a := by simp [memRead16]
@[simp] theorem memRead16_x (a : Addr) (s : State) : (memRead16 a s).2.x = s.x := by simp [memRead16]
@[simp] theorem memRead16_y (a : Addr) (s : State) : (memRead16 a s).2.y = s.y := by simp [memRead16]
@[simp] theorem memRead16_sp (a : Addr) (s : State) : (memRead16 a s).2.sp = s.sp := by simp [memRead16]
@[simp] theorem memRead16_p (a : Addr) (s : State) : (memRead16 a s).2.p = s.p := by simp [memRead16]
@[simp] theorem memRead16_pc (a : Addr) (s : State) : (memRead16 a s).2.pc = s.pc := by simp [memRead16]
@[simp] theorem memRead16_pending (a : Addr) (s : State) : (memRead16 a s).2.pending = s.pending := by simp [memRead16]
@[simp] theorem memRead16_cyc (a : Addr) (s : State) : (memRead16 a s).2.cyc = s.cyc := by simp [memRead16]
@[simp] theorem memRead16_sawUnknownOpcode (a : Addr) (s : State) : (memRead16 a s).2.sawUnknownOpcode = s.sawUnknownOpcode := by simp [memRead16]
@[simp] theorem memRead16_wram (a : Addr) (s : State) : (memRead16 a s).2.wram = s.wram := by simp [memRead16]
@[simp] theorem memRead16_saveRam (a : Addr) (s : State) : (memRead16 a s).2.saveRam = s.saveRam := by simp [memRead16]
@[simp] theorem memRead16_saveDirty (a : Addr) (s : State) : (memRead16 a s).2.saveDirty = s.saveDirty := by simp [memRead16]
@[simp] theorem memRead16_busMap (a : Addr) (s : State) : (memRead16 a s).2.busMap = s.busMap := by simp [memRead16]
@[simp] theorem memRead16_cart (a : Addr) (s : State) : (memRead16 a s).2.cart = s.cart := by simp [memRead16]
@[simp] theorem memRead16_mapper (a : Addr) (s : State) : (memRead16 a s).2.mapper = s.mapper := by simp [memRead16]
@[simp] theorem memRead16_orch (a : Addr) (s : State) : (memRead16 a s).2.orch = s.orch := by simp [memRead16]
@[simp] theorem memRead16_io (a : Addr) (s : State) : (memRead16 a s).2.io = s.io := by simp [memRead16]

@[simp] theorem zpRead16_a (z : Byte) (s : State) : (zpRead16 z s).2.a = s.a := by simp [zpRead16]
@[simp] theorem zpRead16_x (z : Byte) (s : State) : (zpRead16 z s).2.x = s.x := by simp [zpRead16]
@[simp] theorem zpRead16_y (z : Byte) (s : State) : (zpRead16 z s).2.y = s.y := by simp [zpRead16]
@[simp] theorem zpRead16_sp (z : Byte) (s : State) : (zpRead16 z s).2.sp = s.sp := by simp [zpRead16]
@[simp] theorem zpRead16_p (z : Byte) (s : State) : (zpRead16 z s).2.p = s.p := by simp [zpRead16]
@[simp] theorem zpRead16_pc (z : Byte) (s : State) : (zpRead16 z s).2.pc = s.pc := by simp [zpRead16]
@[simp] theorem zpRead16_pending (z : Byte) (s : State) : (zpRead16 z s).2.pending = s.pending := by simp [zpRead16]
@[simp] theorem zpRead16_cyc (z : Byte) (s : State) : (zpRead16 z s).2.cyc = s.cyc := by simp [zpRead16]
@[simp] theorem zpRead16_sawUnknownOpcode (z : Byte) (s : State) : (zpRead16 z s).2.sawUnknownOpcode = s.sawUnknownOpcode := by simp [zpRead16]
@[simp] theorem zpRead16_wram (z : Byte) (s : State) : (zpRead16 z s).2.wram = s.wram := by simp [zpRead16]
@[simp] theorem zpRead16_saveRam (z : Byte) (s : State) : (zpRead16 z s).2.saveRam = s.saveRam := by simp [zpRead16]
@[simp] theorem zpRead16_saveDirty (z : Byte) (s : State) : (zpRead16 z s).2.saveDirty = s.saveDirty := by simp [zpRead16]
@[simp] theorem zpRead16_busMap (z : Byte) (s : State) : (zpRead16 z s).2.busMap = s.busMap := by simp [zpRead16]
@[simp] theorem zpRead16_cart (z : Byte) (s : State) : (zpRead16 z s).2.cart = s.cart := by simp [zpRead16]
@[simp] theorem zpRead16_mapper (z : Byte) (s : State) : (zpRead16 z s).2.mapper = s.mapper := by simp [zpRead16]
@[simp] theorem zpRead16_orch (z : Byte) (s : State) : (zpRead16 z s).2.orch = s.orch := by simp [zpRead16]
@[simp] theorem zpRead16_io (z : Byte) (s : State) : (zpRead16 z s).2.io = s.io := by simp [zpRead16]

@[simp] theorem pull_a (s : State) : (pull s).2.a = s.a := by simp [pull]
@[simp] theorem pull_x (s : State) : (pull s).2.x = s.x := by simp [pull]
@[simp] theorem pull_y (s : State) : (pull s).2.y = s.y := by simp [pull]
@[simp] theorem pull_sp (s : State) : (pull s).2.sp = s.sp + 1 := by simp [pull]
@[simp] theorem pull_p (s : State) : (pull s).2.p = s.p := by simp [pull]
@[simp] theorem pull_pc (s : State) : (pull s).2.pc = s.pc := by simp [pull]
@[simp] theorem pull_pending (s : State) : (pull s).2.pending = s.pending := by simp [pull]
@[simp] theorem pull_cyc (s : State) : (pull s).2.cyc = s.cyc := by simp [pull]
@[simp] theorem pull_sawUnknownOpcode (s : State) : (pull s).2.sawUnknownOpcode = s.sawUnknownOpcode := by simp [pull]
@[simp] theorem pull_wram (s : State) : (pull s).2.wram = s.wram := by simp [pull]
@[simp] theorem pull_saveRam (s : State) : (pull s).2.saveRam = s.saveRam := by simp [pull]
@[simp] theorem pull_saveDirty (s : State) : (pull s).2.saveDirty = s.saveDirty := by simp [pull]
@[simp] theorem pull_busMap (s : State) : (pull s).2.busMap = s.busMap := by simp [pull]
@[simp] theorem pull_cart (s : State) : (pull s).2.cart = s.cart := by simp [pull]
@[simp] theorem pull_mapper (s : State) : (pull s).2.mapper = s.mapper := by simp [pull]
@[simp] theorem pull_orch (s : State) : (pull s).2.orch = s.orch := by simp [pull]
@[simp] theorem pull_io (s : State) : (pull s).2.io = s.io := by simp [pull]

@[simp] theorem fetch8_a (s : State) : (fetch8 s).2.a = s.a := by simp [fetch8]
@[simp] theorem fetch8_x (s : State) : (fetch8 s).2.x = s.x := by simp [fetch8]
@[simp] theorem fetch8_y (s : State) : (fetch8 s).2.y = s.y := by simp [fetch8]
@[simp] theorem fetch8_sp (s : State) : (fetch8 s).2.sp = s.sp := by simp [fetch8]
@[simp] theorem fetch8_p (s : State) : (fetch8 s).2.p = s.p := by simp [fetch8]
@[simp] theorem fetch8_pc (s : State) : (fetch8 s).2.pc = s.pc + 1 := by simp [fetch8]
@[simp] theorem fetch8_pending (s : State) : (fetch8 s).2.pending = s.pending := by simp [fetch8]
@[simp] theorem fetch8_cyc (s : State) : (fetch8 s).2.cyc = s.cyc := by simp [fetch8]
@[simp] theorem fetch8_sawUnknownOpcode (s : State) : (fetch8 s).2.sawUnknownOpcode = s.sawUnknownOpcode := by simp [fetch8]
@[simp] theorem fetch8_wram (s : State) : (fetch8 s).2.wram = s.wram := by simp [fetch8]
@[simp] theorem fetch8_saveRam (s : State) : (fetch8 s).2.saveRam = s.saveRam := by simp [fetch8]
@[simp] theorem fetch8_saveDirty (s : State) : (fetch8 s).2.saveDirty = s.saveDirty := by simp [fetch8]
@[simp] theorem fetch8_busMap (s : State) : (fetch8 s).2.busMap = s.busMap := by simp [fetch8]
@[simp] theorem fetch8_cart (s : State) : (fetch8 s).2.cart = s.cart := by simp [fetch8]
@[simp] theorem fetch8_mapper (s : State) : (fetch8 s).2.mapper = s.mapper := by simp [fetch8]
@[simp] theorem fetch8_orch (s : State) : (fetch8 s).2.orch = s.orch := by simp [fetch8]
@[simp] theorem fetch8_io (s : State) : (fetch8 s).2.io = s.io := by simp [fetch8]

@[simp] theorem pull16_a (s : State) : (pull16 s).2.a = s.a := by simp [pull16]
@[simp] theorem pull16_x (s : State) : (pull16 s).2.x = s.x := by simp [pull16]
@[simp] theorem pull16_y (s : State) : (pull16 s).2.y = s.y := by simp [pull16]
@[simp] theorem pull16_sp (s : State) : (pull16 s).2.sp = s.sp + 1 + 1 := by simp [pull16]
@[simp] theorem pull16_p (s : State) : (pull16 s).2.p = s.p := by simp [pull16]
@[simp] theorem pull16_pc (s : State) : (pull16 s).2.pc = s.pc := by simp [pull16]
@[simp] theorem pull16_pending (s : State) : (pull16 s).2.pending = s.pending := by simp [pull16]
@[simp] theorem pull16_cyc (s : State) : (pull16 s).2.cyc = s.cyc := by simp [pull16]
@[simp] theorem pull16_sawUnknownOpcode (s : State) : (pull16 s).2.sawUnknownOpcode = s.sawUnknownOpcode := by simp [pull16]
@[simp] theorem pull16_wram (s : State) : (pull16 s).2.wram = s.wram := by simp [pull16]
@[simp] theorem pull16_saveRam (s : State) : (pull16 s).2.saveRam = s.saveRam := by simp [pull16]
@[simp] theorem pull16_saveDirty (s : State) : (pull16 s).2.saveDirty = s.saveDirty := by simp [pull16]
@[simp] theorem pull16_busMap (s : State) : (pull16 s).2.busMap = s.busMap := by simp [pull16]
@[simp] theorem pull16_cart (s : State) : (pull16 s).2.cart = s.cart := by simp [pull16]
@[simp] theorem pull16_mapper (s : State) : (pull16 s).2.mapper = s.mapper := by simp [pull16]
@[simp] theorem pull16_orch (s : State) : (pull16 s).2.orch = s.orch := by simp [pull16]
@[simp] theorem pull16_io (s : State) : (pull16 s).2.io = s.io := by simp [pull16]

/-! ### A write leaves the registers, the cartridge, the orchestrator and the host boundary -/

/-- R51, R436: a mapper write changes only the mapper, the map, and the PPU's pattern memory and mirroring. -/
theorem mapperWrite_frame (a : Addr) (d : Byte) (s : State) : ∃ m b p,
    mapperWrite a d s = { s with mapper := m, busMap := b, ppu := p } := by
  unfold mapperWrite
  split
  · unfold mmcWrite
    split
    · exact ⟨_, _, _, rfl⟩
    · dsimp only
      split
      · unfold mmcLoad applyChr applyMirroring setMirroring pushChr applyPrg mapPrg
        dsimp only
        split <;> (repeat' split) <;> exact ⟨_, _, _, rfl⟩
      · exact ⟨_, _, _, rfl⟩
  · exact ⟨_, _, _, rfl⟩

@[simp] theorem mapperWrite_a (a : Addr) (d : Byte) (s : State) : (mapperWrite a d s).a = s.a := by
  obtain ⟨_, _, _, h⟩ := mapperWrite_frame a d s; rw [h]
@[simp] theorem mapperWrite_x (a : Addr) (d : Byte) (s : State) : (mapperWrite a d s).x = s.x := by
  obtain ⟨_, _, _, h⟩ := mapperWrite_frame a d s; rw [h]
@[simp] theorem mapperWrite_y (a : Addr) (d : Byte) (s : State) : (mapperWrite a d s).y = s.y := by
  obtain ⟨_, _, _, h⟩ := mapperWrite_frame a d s; rw [h]
@[simp] theorem mapperWrite_sp (a : Addr) (d : Byte) (s : State) : (mapperWrite a d s).sp = s.sp := by
  obtain ⟨_, _, _, h⟩ := mapperWrite_frame a d s; rw [h]
@[simp] theorem mapperWrite_p (a : Addr) (d : Byte) (s : State) : (mapperWrite a d s).p = s.p := by
  obtain ⟨_, _, _, h⟩ := mapperWrite_frame a d s; rw [h]
@[simp] theorem mapperWrite_pc (a : Addr) (d : Byte) (s : State) : (mapperWrite a d s).pc = s.pc := by
  obtain ⟨_, _, _, h⟩ := mapperWrite_frame a d s; rw [h]
@[simp] theorem mapperWrite_sawUnknownOpcode (a : Addr) (d : Byte) (s : State) : (mapperWrite a d s).sawUnknownOpcode = s.sawUnknownOpcode := by
  obtain ⟨_, _, _, h⟩ := mapperWrite_frame a d s; rw [h]
@[simp] theorem mapperWrite_cart (a : Addr) (d : Byte) (s : State) : (mapperWrite a d s).cart = s.cart := by
  obtain ⟨_, _, _, h⟩ := mapperWrite_frame a d s; rw [h]
@[simp] theorem mapperWrite_orch (a : Addr) (d : Byte) (s : State) : (mapperWrite a d s).orch = s.orch := by
  obtain ⟨_, _, _, h⟩ := mapperWrite_frame a d s; rw [h]
@[simp] theorem mapperWrite_io (a : Addr) (d : Byte) (s : State) : (mapperWrite a d s).io = s.io := by
  obtain ⟨_, _, _, h⟩ := mapperWrite_frame a d s; rw [h]

@[simp] theorem dmcRefill_a (s : State) : (dmcRefill s).a = s.a := by
  unfold dmcRefill; dsimp only; repeat' split
  all_goals simp
@[simp] theorem dmcRefill_x (s : State) : (dmcRefill s).x = s.x := by
  unfold dmcRefill; dsimp only; repeat' split
  all_goals simp
@[simp] theorem dmcRefill_y (s : State) : (dmcRefill s).y = s.y := by
  unfold dmcRefill; dsimp only; repeat' split
  all_goals simp
@[simp] theorem dmcRefill_sp (s : State) : (dmcRefill s).sp = s.sp := by
  unfold dmcRefill; dsimp only; repeat' split
  all_goals simp
@[simp] theorem dmcRefill_p (s : State) : (dmcRefill s).p = s.p := by
  unfold dmcRefill; dsimp only; repeat' split
  all_goals simp
@[simp] theorem dmcRefill_pc (s : State) : (dmcRefill s).pc = s.pc := by
  unfold dmcRefill; dsimp only; repeat' split
  all_goals simp
@[simp] theorem dmcRefill_sawUnknownOpcode (s : State) : (dmcRefill s).sawUnknownOpcode = s.sawUnknownOpcode := by
  unfold dmcRefill; dsimp only; repeat' split
  all_goals simp
@[simp] theorem dmcRefill_cart (s : State) : (dmcRefill s).cart = s.cart := by
  unfold dmcRefill; dsimp only; repeat' split
  all_goals simp
@[simp] theorem dmcRefill_orch (s : State) : (dmcRefill s).orch = s.orch := by
  unfold dmcRefill; dsimp only; repeat' split
  all_goals simp
@[simp] theorem dmcRefill_io (s : State) : (dmcRefill s).io = s.io := by
  unfold dmcRefill; dsimp only; repeat' split
  all_goals simp

@[simp] theorem oamDmaByte_a (d base : Byte) (i : Nat) (s : State) : (oamDmaByte d base s i).a = s.a := by
  simp [oamDmaByte]
@[simp] theorem oamDmaByte_x (d base : Byte) (i : Nat) (s : State) : (oamDmaByte d base s i).x = s.x := by
  simp [oamDmaByte]
@[simp] theorem oamDmaByte_y (d base : Byte) (i : Nat) (s : State) : (oamDmaByte d base s i).y = s.y := by
  simp [oamDmaByte]
@[simp] theorem oamDmaByte_sp (d base : Byte) (i : Nat) (s : State) : (oamDmaByte d base s i).sp = s.sp := by
  simp [oamDmaByte]
@[simp] theorem oamDmaByte_p (d base : Byte) (i : Nat) (s : State) : (oamDmaByte d base s i).p = s.p := by
  simp [oamDmaByte]
@[simp] theorem oamDmaByte_pc (d base : Byte) (i : Nat) (s : State) : (oamDmaByte d base s i).pc = s.pc := by
  simp [oamDmaByte]
@[simp] theorem oamDmaByte_sawUnknownOpcode (d base : Byte) (i : Nat) (s : State) : (oamDmaByte d base s i).sawUnknownOpcode = s.sawUnknownOpcode := by
  simp [oamDmaByte]
@[simp] theorem oamDmaByte_cart (d base : Byte) (i : Nat) (s : State) : (oamDmaByte d base s i).cart = s.cart := by
  simp [oamDmaByte]
@[simp] theorem oamDmaByte_orch (d base : Byte) (i : Nat) (s : State) : (oamDmaByte d base s i).orch = s.orch := by
  simp [oamDmaByte]
@[simp] theorem oamDmaByte_io (d base : Byte) (i : Nat) (s : State) : (oamDmaByte d base s i).io = s.io := by
  simp [oamDmaByte]
@[simp] theorem oamDmaByte_pending (d base : Byte) (i : Nat) (s : State) : (oamDmaByte d base s i).pending = s.pending := by
  simp [oamDmaByte]
@[simp] theorem oamDmaByte_cyc (d base : Byte) (i : Nat) (s : State) : (oamDmaByte d base s i).cyc = s.cyc := by
  simp [oamDmaByte]
@[simp] theorem oamDmaByte_wram (d base : Byte) (i : Nat) (s : State) : (oamDmaByte d base s i).wram = s.wram := by
  simp [oamDmaByte]
@[simp] theorem oamDmaByte_saveRam (d base : Byte) (i : Nat) (s : State) : (oamDmaByte d base s i).saveRam = s.saveRam := by
  simp [oamDmaByte]
@[simp] theorem oamDmaByte_saveDirty (d base : Byte) (i : Nat) (s : State) : (oamDmaByte d base s i).saveDirty = s.saveDirty := by
  simp [oamDmaByte]
@[simp] theorem oamDmaByte_busMap (d base : Byte) (i : Nat) (s : State) : (oamDmaByte d base s i).busMap = s.busMap := by
  simp [oamDmaByte]
@[simp] theorem oamDmaByte_mapper (d base : Byte) (i : Nat) (s : State) : (oamDmaByte d base s i).mapper = s.mapper := by
  simp [oamDmaByte]

/-- A property kept by each step of a fold is kept by the fold. -/
theorem foldl_keeps {α β : Type} (f : α → β → α) (P : α → Prop) (hf : ∀ s b, P s → P (f s b)) (l : List β) (s : α)
    (h : P s) : P (l.foldl f s) := by
  induction l generalizing s with
  | nil => exact h
  | cons b l ih => exact ih (f s b) (hf s b h)

@[simp] theorem oamDma_a (d : Byte) (s : State) : (oamDma d s).a = s.a := by
  unfold oamDma; rw [addCycles_a]
  exact foldl_keeps _ (fun t => t.a = s.a) (fun t b h => (oamDmaByte_a _ _ _ _).trans h) _ s rfl
@[simp] theorem oamDma_x (d : Byte) (s : State) : (oamDma d s).x = s.x := by
  unfold oamDma; rw [addCycles_x]
  exact foldl_keeps _ (fun t => t.x = s.x) (fun t b h => (oamDmaByte_x _ _ _ _).trans h) _ s rfl
@[simp] theorem oamDma_y (d : Byte) (s : State) : (oamDma d s).y = s.y := by
  unfold oamDma; rw [addCycles_y]
  exact foldl_keeps _ (fun t => t.y = s.y) (fun t b h => (oamDmaByte_y _ _ _ _).trans h) _ s rfl
@[simp] theorem oamDma_sp (d : Byte) (s : State) : (oamDma d s).sp = s.sp := by
  unfold oamDma; rw [addCycles_sp]
  exact foldl_keeps _ (fun t => t.sp = s.sp) (fun t b h => (oamDmaByte_sp _ _ _ _).trans h) _ s rfl
@[simp] theorem oamDma_p (d : Byte) (s : State) : (oamDma d s).p = s.p := by
  unfold oamDma; rw [addCycles_p]
  exact foldl_keeps _ (fun t => t.p = s.p) (fun t b h => (oamDmaByte_p _ _ _ _).trans h) _ s rfl
@[simp] theorem oamDma_pc (d : Byte) (s : State) : (oamDma d s).pc = s.pc := by
  unfold oamDma; rw [addCycles_pc]
  exact foldl_keeps _ (fun t => t.pc = s.pc) (fun t b h => (oamDmaByte_pc _ _ _ _).trans h) _ s rfl
@[simp] theorem oamDma_sawUnknownOpcode (d : Byte) (s : State) : (oamDma d s).sawUnknownOpcode = s.sawUnknownOpcode := by
  unfold oamDma; rw [addCycles_sawUnknownOpcode]
  exact foldl_keeps _ (fun t => t.sawUnknownOpcode = s.sawUnknownOpcode) (fun t b h => (oamDmaByte_sawUnknownOpcode _ _ _ _).trans h) _ s rfl
@[simp] theorem oamDma_cart (d : Byte) (s : State) : (oamDma d s).cart = s.cart := by
  unfold oamDma; rw [addCycles_cart]
  exact foldl_keeps _ (fun t => t.cart = s.cart) (fun t b h => (oamDmaByte_cart _ _ _ _).trans h) _ s rfl
@[simp] theorem oamDma_orch (d : Byte) (s : State) : (oamDma d s).orch = s.orch := by
  unfold oamDma; rw [addCycles_orch]
  exact foldl_keeps _ (fun t => t.orch = s.orch) (fun t b h => (oamDmaByte_orch _ _ _ _).trans h) _ s rfl
@[simp] theorem oamDma_io (d : Byte) (s : State) : (oamDma d s).io = s.io := by
  unfold oamDma; rw [addCycles_io]
  exact foldl_keeps _ (fun t => t.io = s.io) (fun t b h => (oamDmaByte_io _ _ _ _).trans h) _ s rfl
@[simp] theorem oamDma_pending (d : Byte) (s : State) : (oamDma d s).pending = s.pending := by
  unfold oamDma; rw [addCycles_pending]
  exact foldl_keeps _ (fun t => t.pending = s.pending) (fun t b h => (oamDmaByte_pending _ _ _ _).trans h) _ s rfl
@[simp] theorem oamDma_wram (d : Byte) (s : State) : (oamDma d s).wram = s.wram := by
  unfold oamDma; rw [addCycles_wram]
  exact foldl_keeps _ (fun t => t.wram = s.wram) (fun t b h => (oamDmaByte_wram _ _ _ _).trans h) _ s rfl
@[simp] theorem oamDma_saveRam (d : Byte) (s : State) : (oamDma d s).saveRam = s.saveRam := by
  unfold oamDma; rw [addCycles_saveRam]
  exact foldl_keeps _ (fun t => t.saveRam = s.saveRam) (fun t b h => (oamDmaByte_saveRam _ _ _ _).trans h) _ s rfl
@[simp] theorem oamDma_saveDirty (d : Byte) (s : State) : (oamDma d s).saveDirty = s.saveDirty := by
  unfold oamDma; rw [addCycles_saveDirty]
  exact foldl_keeps _ (fun t => t.saveDirty = s.saveDirty) (fun t b h => (oamDmaByte_saveDirty _ _ _ _).trans h) _ s rfl
@[simp] theorem oamDma_busMap (d : Byte) (s : State) : (oamDma d s).busMap = s.busMap := by
  unfold oamDma; rw [addCycles_busMap]
  exact foldl_keeps _ (fun t => t.busMap = s.busMap) (fun t b h => (oamDmaByte_busMap _ _ _ _).trans h) _ s rfl
@[simp] theorem oamDma_mapper (d : Byte) (s : State) : (oamDma d s).mapper = s.mapper := by
  unfold oamDma; rw [addCycles_mapper]
  exact foldl_keeps _ (fun t => t.mapper = s.mapper) (fun t b h => (oamDmaByte_mapper _ _ _ _).trans h) _ s rfl
@[simp] theorem oamDma_cyc (d : Byte) (s : State) : (oamDma d s).cyc = s.cyc + Config.oamDmaCycles := by
  unfold oamDma; rw [addCycles_cyc]
  refine congrArg (· + Config.oamDmaCycles) ?_
  exact foldl_keeps _ (fun t => t.cyc = s.cyc) (fun t b h => (oamDmaByte_cyc _ _ _ _).trans h) _ s rfl

@[simp] theorem memWrite_a (a : Addr) (d : Byte) (s : State) : (memWrite a d s).a = s.a := by
  simp only [memWrite, deviceWrite, apuWrite, dmcStart]; repeat' split
  all_goals simp
@[simp] theorem memWrite_x (a : Addr) (d : Byte) (s : State) : (memWrite a d s).x = s.x := by
  simp only [memWrite, deviceWrite, apuWrite, dmcStart]; repeat' split
  all_goals simp
@[simp] theorem memWrite_y (a : Addr) (d : Byte) (s : State) : (memWrite a d s).y = s.y := by
  simp only [memWrite, deviceWrite, apuWrite, dmcStart]; repeat' split
  all_goals simp
@[simp] theorem memWrite_sp (a : Addr) (d : Byte) (s : State) : (memWrite a d s).sp = s.sp := by
  simp only [memWrite, deviceWrite, apuWrite, dmcStart]; repeat' split
  all_goals simp
@[simp] theorem memWrite_p (a : Addr) (d : Byte) (s : State) : (memWrite a d s).p = s.p := by
  simp only [memWrite, deviceWrite, apuWrite, dmcStart]; repeat' split
  all_goals simp
@[simp] theorem memWrite_pc (a : Addr) (d : Byte) (s : State) : (memWrite a d s).pc = s.pc := by
  simp only [memWrite, deviceWrite, apuWrite, dmcStart]; repeat' split
  all_goals simp
@[simp] theorem memWrite_sawUnknownOpcode (a : Addr) (d : Byte) (s : State) : (memWrite a d s).sawUnknownOpcode = s.sawUnknownOpcode := by
  simp only [memWrite, deviceWrite, apuWrite, dmcStart]; repeat' split
  all_goals simp
@[simp] theorem memWrite_cart (a : Addr) (d : Byte) (s : State) : (memWrite a d s).cart = s.cart := by
  simp only [memWrite, deviceWrite, apuWrite, dmcStart]; repeat' split
  all_goals simp
@[simp] theorem memWrite_orch (a : Addr) (d : Byte) (s : State) : (memWrite a d s).orch = s.orch := by
  simp only [memWrite, deviceWrite, apuWrite, dmcStart]; repeat' split
  all_goals simp
@[simp] theorem memWrite_io (a : Addr) (d : Byte) (s : State) : (memWrite a d s).io = s.io := by
  simp only [memWrite, deviceWrite, apuWrite, dmcStart]; repeat' split
  all_goals simp

@[simp] theorem push_a (v : Byte) (s : State) : (push v s).a = s.a := by simp [push]
@[simp] theorem push_x (v : Byte) (s : State) : (push v s).x = s.x := by simp [push]
@[simp] theorem push_y (v : Byte) (s : State) : (push v s).y = s.y := by simp [push]
@[simp] theorem push_sp (v : Byte) (s : State) : (push v s).sp = s.sp - 1 := by simp [push]
@[simp] theorem push_p (v : Byte) (s : State) : (push v s).p = s.p := by simp [push]
@[simp] theorem push_pc (v : Byte) (s : State) : (push v s).pc = s.pc := by simp [push]
@[simp] theorem push_sawUnknownOpcode (v : Byte) (s : State) : (push v s).sawUnknownOpcode = s.sawUnknownOpcode := by simp [push]
@[simp] theorem push_cart (v : Byte) (s : State) : (push v s).cart = s.cart := by simp [push]
@[simp] theorem push_orch (v : Byte) (s : State) : (push v s).orch = s.orch := by simp [push]
@[simp] theorem push_io (v : Byte) (s : State) : (push v s).io = s.io := by simp [push]

@[simp] theorem push16_a (v : Addr) (s : State) : (push16 v s).a = s.a := by simp [push16]
@[simp] theorem push16_x (v : Addr) (s : State) : (push16 v s).x = s.x := by simp [push16]
@[simp] theorem push16_y (v : Addr) (s : State) : (push16 v s).y = s.y := by simp [push16]
@[simp] theorem push16_sp (v : Addr) (s : State) : (push16 v s).sp = s.sp - 1 - 1 := by simp [push16]
@[simp] theorem push16_p (v : Addr) (s : State) : (push16 v s).p = s.p := by simp [push16]
@[simp] theorem push16_pc (v : Addr) (s : State) : (push16 v s).pc = s.pc := by simp [push16]
@[simp] theorem push16_sawUnknownOpcode (v : Addr) (s : State) : (push16 v s).sawUnknownOpcode = s.sawUnknownOpcode := by simp [push16]
@[simp] theorem push16_cart (v : Addr) (s : State) : (push16 v s).cart = s.cart := by simp [push16]
@[simp] theorem push16_orch (v : Addr) (s : State) : (push16 v s).orch = s.orch := by simp [push16]
@[simp] theorem push16_io (v : Addr) (s : State) : (push16 v s).io = s.io := by simp [push16]

end Sys2Proof.Machine
end

