-- ==== Sys2Proof/Laws/Exec.lean ====
section
/-! SUPPORT. One lemma that says once what running any instruction can do: a property kept by the primitive operations (`Closed`) is
kept by every instruction, by an interrupt's service and by the instruction fetch, and every instruction completes. -/

namespace Sys2Proof.Machine

/-- A property of states that every primitive operation of an instruction keeps. -/
structure Closed (P : State → Prop) : Prop where
  setA : ∀ s v, P s → P { s with a := v }
  setX : ∀ s v, P s → P { s with x := v }
  setY : ∀ s v, P s → P { s with y := v }
  setSp : ∀ s v, P s → P { s with sp := v }
  setPc : ∀ s v, P s → P { s with pc := v }
  /-- a status byte whose bits 4 and 5 are the old ones, or 0 and 1 -/
  setP : ∀ s (q : Byte), (q.getLsbD 4 = s.p.getLsbD 4 ∧ q.getLsbD 5 = s.p.getLsbD 5) ∨
    (q.getLsbD 4 = false ∧ q.getLsbD 5 = true) → P s → P { s with p := q }
  setPending : ∀ s k, P s → P { s with pending := k }
  setCyc : ∀ s n, P s → P { s with cyc := n }
  memRead : ∀ s a, P s → P (memRead a s).2
  memWrite : ∀ s a d, P s → P (memWrite a d s)
  markUnknown : ∀ s m, P s → P (logMsg m { s with sawUnknownOpcode := true })

namespace Closed

variable {P : State → Prop} (hP : Closed P) {s : State}

include hP

theorem addCycles (s : State) (n : Nat) (h : P s) : P (addCycles n s) := hP.setCyc s _ h

theorem setFlag {i : Nat} (h4 : i ≠ 4) (h5 : i ≠ 5) (b : Bool) (h : P s) : P { s with p := setBit s.p i b } := by
  refine hP.setP s _ (.inl ?_) h
  constructor
  · rw [getLsbD_setBit _ _ _ _ (by decide), if_neg (Ne.symm h4)]
  · rw [getLsbD_setBit _ _ _ _ (by decide), if_neg (Ne.symm h5)]

theorem setC (b : Bool) (h : P s) : P (setC b s) := hP.setFlag (by decide) (by decide) b h
theorem setZ (b : Bool) (h : P s) : P (setZ b s) := hP.setFlag (by decide) (by decide) b h
theorem setI (b : Bool) (h : P s) : P (setI b s) := hP.setFlag (by decide) (by decide) b h
theorem setD (b : Bool) (h : P s) : P (setD b s) := hP.setFlag (by decide) (by decide) b h
theorem setV (b : Bool) (h : P s) : P (setV b s) := hP.setFlag (by decide) (by decide) b h
theorem setN (b : Bool) (h : P s) : P (setN b s) := hP.setFlag (by decide) (by decide) b h
theorem setNZ (v : Byte) (h : P s) : P (setNZ v s) := hP.setN _ (hP.setZ _ h)

theorem setPulled (v : Byte) (h : P s) : P { s with p := statusPulled v } := by
  refine hP.setP s _ (.inr ?_) h
  constructor <;> simp [statusPulled]

theorem request (k : Tag) (h : P s) : P (request k s) := hP.setPending s _ h

theorem lda (m : Byte) (h : P s) : P (ldaOp m s) := hP.setNZ m (hP.setA s m h)
theorem ldx (m : Byte) (h : P s) : P (ldxOp m s) := hP.setNZ m (hP.setX s m h)
theorem ldy (m : Byte) (h : P s) : P (ldyOp m s) := hP.setNZ m (hP.setY s m h)
theorem and (m : Byte) (h : P s) : P (andOp m s) := hP.lda _ h
theorem ora (m : Byte) (h : P s) : P (oraOp m s) := hP.lda _ h
theorem eor (m : Byte) (h : P s) : P (eorOp m s) := hP.lda _ h
theorem adc (m : Byte) (h : P s) : P (adcOp m s) := hP.setNZ _ (hP.setA _ _ (hP.setV _ (hP.setC _ h)))
theorem sbc (m : Byte) (h : P s) : P (sbcOp m s) := hP.setNZ _ (hP.setA _ _ (hP.setV _ (hP.setC _ h)))
theorem cmp (r m : Byte) (h : P s) : P (compareOp r m s) := hP.setNZ _ (hP.setC _ h)
theorem bit (m : Byte) (h : P s) : P (bitOp m s) := hP.setV _ (hP.setN _ (hP.setZ _ h))
theorem asl (m : Byte) (h : P s) : P (aslOp m s).2 := hP.setC _ h
theorem lsr (m : Byte) (h : P s) : P (lsrOp m s).2 := hP.setC _ h
theorem rol (m : Byte) (h : P s) : P (rolOp m s).2 := hP.setC _ h
theorem ror (m : Byte) (h : P s) : P (rorOp m s).2 := hP.setC _ h

theorem memRead16 (a : Addr) (h : P s) : P (memRead16 a s).2 := hP.memRead _ _ (hP.memRead s a h)
theorem zpRead16 (z : Byte) (h : P s) : P (zpRead16 z s).2 := hP.memRead _ _ (hP.memRead s _ h)
theorem push (v : Byte) (h : P s) : P (push v s) := hP.setSp _ _ (hP.memWrite s _ v h)
theorem pull (h : P s) : P (pull s).2 := hP.memRead _ _ (hP.setSp s _ h)
theorem push16 (v : Addr) (h : P s) : P (push16 v s) := hP.push _ (hP.push _ h)
theorem pull16 (h : P s) : P (pull16 s).2 := hP.pull (hP.pull h)
theorem fetch8 (h : P s) : P (fetch8 s).2 := hP.setPc _ _ (hP.memRead s _ h)

theorem returnFromInterrupt (h : P s) : P (returnFromInterrupt s) :=
  hP.setPc _ _ (hP.pull16 (hP.setPulled _ (hP.pull h)))

theorem resetRegisters (h : P s) : P (resetRegisters s) := by
  have h1 := hP.setSp _ 0xFF (hP.setY _ Config.resetY (hP.setX _ Config.resetX (hP.setA s Config.resetA h)))
  have h2 := hP.setPending _ .none (hP.setP _ 0x24 (.inr (by decide)) h1)
  exact hP.setCyc _ _ h2

/-- Every interrupt service keeps the property. -/
theorem service (k : Tag) (h : P s) : P (service k s) := by
  unfold Machine.service
  have h2 := hP.push (pushedStatus k (Machine.push16 s.pc s).p) (hP.push16 s.pc h)
  have h3 := hP.memRead16 (vectorOf k) (hP.setI true h2)
  have h4 := hP.setPc _ (Machine.memRead16 (vectorOf k)
    (Machine.setI true (Machine.push (pushedStatus k (Machine.push16 s.pc s).p) (Machine.push16 s.pc s)))).1 h3
  exact hP.addCycles _ Config.intCycles (hP.setPending _ .none h4)

theorem readMem (op : Byte) {e : Ea × State} (he : P e.2) {f : Byte → State → State} (hf : ∀ m t, P t → P (f m t)) :
    P (readMem op e f) := hP.addCycles _ _ (hf _ _ (hP.memRead _ _ he))

theorem writeMem (op : Byte) {e : Ea × State} (he : P e.2) (v : State → Byte) : P (writeMem op e v) :=
  hP.addCycles _ _ (hP.memWrite _ _ _ he)

theorem modifyMem (op : Byte) {e : Ea × State} (he : P e.2) {f : Byte → State → Byte × State}
    (hf : ∀ m t, P t → P (f m t).2) : P (modifyMem op e f) :=
  hP.addCycles _ _ (hP.setNZ _ (hP.memWrite _ _ _ (hf _ _ (hP.memRead _ _ he))))

theorem modifyAcc (op : Byte) {f : Byte → State → Byte × State} (hf : ∀ m t, P t → P (f m t).2) (h : P s) :
    P (modifyAcc op f s) := hP.addCycles _ _ (hP.setNZ _ (hP.setA _ _ (hf _ _ h)))

theorem branch (op d : Byte) (c : Bool) (h : P s) : P (branch op d c s) := by
  unfold Machine.branch
  dsimp only
  split
  · exact hP.addCycles _ _ (hP.setPc _ _ h)
  · exact hP.addCycles _ _ h

theorem unknownOpcode (op : Byte) (h : P s) : ∃ t, unknownOpcode op s = .next t ∧ P t :=
  ⟨_, rfl, hP.addCycles _ _ (hP.markUnknown s _ h)⟩

theorem execBrk (h : P s) : ∃ t, Machine.exec .brk s = .next t ∧ P t := ⟨_, rfl, hP.addCycles _ _ (hP.request _ (hP.setPc _ _ h))⟩
theorem execOraIzx (d : Byte) (h : P s) : ∃ t, Machine.exec (.oraIzx d) s = .next t ∧ P t := ⟨_, rfl, hP.readMem 0x01 (hP.zpRead16 _ h) (fun m _ => hP.ora m)⟩
theorem execUnknown02 (h : P s) : ∃ t, Machine.exec .unknown02 s = .next t ∧ P t := hP.unknownOpcode _ h
theorem execUnknown03 (h : P s) : ∃ t, Machine.exec .unknown03 s = .next t ∧ P t := hP.unknownOpcode _ h
theorem execUnknown04 (h : P s) : ∃ t, Machine.exec .unknown04 s = .next t ∧ P t := hP.unknownOpcode _ h
theorem execOraZp (d : Byte) (h : P s) : ∃ t, Machine.exec (.oraZp d) s = .next t ∧ P t := ⟨_, rfl, hP.readMem 0x05 h (fun m _ => hP.ora m)⟩
theorem execAslZp (d : Byte) (h : P s) : ∃ t, Machine.exec (.aslZp d) s = .next t ∧ P t := ⟨_, rfl, hP.modifyMem 0x06 h (fun m _ => hP.asl m)⟩
theorem execUnknown07 (h : P s) : ∃ t, Machine.exec .unknown07 s = .next t ∧ P t := hP.unknownOpcode _ h
theorem execPhp (h : P s) : ∃ t, Machine.exec .php s = .next t ∧ P t := ⟨_, rfl, hP.addCycles _ _ (hP.push _ h)⟩
theorem execOraImm (d : Byte) (h : P s) : ∃ t, Machine.exec (.oraImm d) s = .next t ∧ P t := ⟨_, rfl, hP.addCycles _ _ (hP.ora d h)⟩
theorem execAslAcc (h : P s) : ∃ t, Machine.exec .aslAcc s = .next t ∧ P t := ⟨_, rfl, hP.modifyAcc 0x0A (fun m _ => hP.asl m) h⟩
theorem execUnknown0B (h : P s) : ∃ t, Machine.exec .unknown0B s = .next t ∧ P t := hP.unknownOpcode _ h
theorem execUnknown0C (h : P s) : ∃ t, Machine.exec .unknown0C s = .next t ∧ P t := hP.unknownOpcode _ h
theorem execOraAbs (a : Addr) (h : P s) : ∃ t, Machine.exec (.oraAbs a) s = .next t ∧ P t := ⟨_, rfl, hP.readMem 0x0D h (fun m _ => hP.ora m)⟩
theorem execAslAbs (a : Addr) (h : P s) : ∃ t, Machine.exec (.aslAbs a) s = .next t ∧ P t := ⟨_, rfl, hP.modifyMem 0x0E h (fun m _ => hP.asl m)⟩
theorem execUnknown0F (h : P s) : ∃ t, Machine.exec .unknown0F s = .next t ∧ P t := hP.unknownOpcode _ h
theorem execBplRel (d : Byte) (h : P s) : ∃ t, Machine.exec (.bplRel d) s = .next t ∧ P t := ⟨_, rfl, hP.branch _ _ _ h⟩
theorem execOraIzy (d : Byte) (h : P s) : ∃ t, Machine.exec (.oraIzy d) s = .next t ∧ P t := ⟨_, rfl, hP.readMem 0x11 (hP.zpRead16 _ h) (fun m _ => hP.ora m)⟩
theorem execUnknown12 (h : P s) : ∃ t, Machine.exec .unknown12 s = .next t ∧ P t := hP.unknownOpcode _ h
theorem execUnknown13 (h : P s) : ∃ t, Machine.exec .unknown13 s = .next t ∧ P t := hP.unknownOpcode _ h
theorem execUnknown14 (h : P s) : ∃ t, Machine.exec .unknown14 s = .next t ∧ P t := hP.unknownOpcode _ h
theorem execOraZpx (d : Byte) (h : P s) : ∃ t, Machine.exec (.oraZpx d) s = .next t ∧ P t := ⟨_, rfl, hP.readMem 0x15 h (fun m _ => hP.ora m)⟩
theorem execAslZpx (d : Byte) (h : P s) : ∃ t, Machine.exec (.aslZpx d) s = .next t ∧ P t := ⟨_, rfl, hP.modifyMem 0x16 h (fun m _ => hP.asl m)⟩
theorem execUnknown17 (h : P s) : ∃ t, Machine.exec .unknown17 s = .next t ∧ P t := hP.unknownOpcode _ h
theorem execClc (h : P s) : ∃ t, Machine.exec .clc s = .next t ∧ P t := ⟨_, rfl, hP.addCycles _ _ (hP.setC _ h)⟩
theorem execOraAby (a : Addr) (h : P s) : ∃ t, Machine.exec (.oraAby a) s = .next t ∧ P t := ⟨_, rfl, hP.readMem 0x19 h (fun m _ => hP.ora m)⟩
theorem execUnknown1A (h : P s) : ∃ t, Machine.exec .unknown1A s = .next t ∧ P t := hP.unknownOpcode _ h
theorem execUnknown1B (h : P s) : ∃ t, Machine.exec .unknown1B s = .next t ∧ P t := hP.unknownOpcode _ h
theorem execUnknown1C (h : P s) : ∃ t, Machine.exec .unknown1C s = .next t ∧ P t := hP.unknownOpcode _ h
theorem execOraAbx (a : Addr) (h : P s) : ∃ t, Machine.exec (.oraAbx a) s = .next t ∧ P t := ⟨_, rfl, hP.readMem 0x1D h (fun m _ => hP.ora m)⟩
theorem execAslAbx (a : Addr) (h : P s) : ∃ t, Machine.exec (.aslAbx a) s = .next t ∧ P t := ⟨_, rfl, hP.modifyMem 0x1E h (fun m _ => hP.asl m)⟩
theorem execUnknown1F (h : P s) : ∃ t, Machine.exec .unknown1F s = .next t ∧ P t := hP.unknownOpcode _ h
theorem execJsrAbs (a : Addr) (h : P s) : ∃ t, Machine.exec (.jsrAbs a) s = .next t ∧ P t := ⟨_, rfl, hP.addCycles _ _ (hP.setPc _ _ (hP.push16 _ h))⟩
theorem execAndIzx (d : Byte) (h : P s) : ∃ t, Machine.exec (.andIzx d) s = .next t ∧ P t := ⟨_, rfl, hP.readMem 0x21 (hP.zpRead16 _ h) (fun m _ => hP.and m)⟩
theorem execUnknown22 (h : P s) : ∃ t, Machine.exec .unknown22 s = .next t ∧ P t := hP.unknownOpcode _ h
theorem execUnknown23 (h : P s) : ∃ t, Machine.exec .unknown23 s = .next t ∧ P t := hP.unknownOpcode _ h
theorem execBitZp (d : Byte) (h : P s) : ∃ t, Machine.exec (.bitZp d) s = .next t ∧ P t := ⟨_, rfl, hP.readMem 0x24 h (fun m _ => hP.bit m)⟩
theorem execAndZp (d : Byte) (h : P s) : ∃ t, Machine.exec (.andZp d) s = .next t ∧ P t := ⟨_, rfl, hP.readMem 0x25 h (fun m _ => hP.and m)⟩
theorem execRolZp (d : Byte) (h : P s) : ∃ t, Machine.exec (.rolZp d) s = .next t ∧ P t := ⟨_, rfl, hP.modifyMem 0x26 h (fun m _ => hP.rol m)⟩
theorem execUnknown27 (h : P s) : ∃ t, Machine.exec .unknown27 s = .next t ∧ P t := hP.unknownOpcode _ h
theorem execPlp (h : P s) : ∃ t, Machine.exec .plp s = .next t ∧ P t := ⟨_, rfl, hP.addCycles _ _ (hP.setPulled _ (hP.pull h))⟩
theorem execAndImm (d : Byte) (h : P s) : ∃ t, Machine.exec (.andImm d) s = .next t ∧ P t := ⟨_, rfl, hP.addCycles _ _ (hP.and d h)⟩
theorem execRolAcc (h : P s) : ∃ t, Machine.exec .rolAcc s = .next t ∧ P t := ⟨_, rfl, hP.modifyAcc 0x2A (fun m _ => hP.rol m) h⟩
theorem execUnknown2B (h : P s) : ∃ t, Machine.exec .unknown2B s = .next t ∧ P t := hP.unknownOpcode _ h
theorem execBitAbs (a : Addr) (h : P s) : ∃ t, Machine.exec (.bitAbs a) s = .next t ∧ P t := ⟨_, rfl, hP.readMem 0x2C h (fun m _ => hP.bit m)⟩
theorem execAndAbs (a : Addr) (h : P s) : ∃ t, Machine.exec (.andAbs a) s = .next t ∧ P t := ⟨_, rfl, hP.readMem 0x2D h (fun m _ => hP.and m)⟩
theorem execRolAbs (a : Addr) (h : P s) : ∃ t, Machine.exec (.rolAbs a) s = .next t ∧ P t := ⟨_, rfl, hP.modifyMem 0x2E h (fun m _ => hP.rol m)⟩
theorem execUnknown2F (h : P s) : ∃ t, Machine.exec .unknown2F s = .next t ∧ P t := hP.unknownOpcode _ h
theorem execBmiRel (d : Byte) (h : P s) : ∃ t, Machine.exec (.bmiRel d) s = .next t ∧ P t := ⟨_, rfl, hP.branch _ _ _ h⟩
theorem execAndIzy (d : Byte) (h : P s) : ∃ t, Machine.exec (.andIzy d) s = .next t ∧ P t := ⟨_, rfl, hP.readMem 0x31 (hP.zpRead16 _ h) (fun m _ => hP.and m)⟩
theorem execUnknown32 (h : P s) : ∃ t, Machine.exec .unknown32 s = .next t ∧ P t := hP.unknownOpcode _ h
theorem execUnknown33 (h : P s) : ∃ t, Machine.exec .unknown33 s = .next t ∧ P t := hP.unknownOpcode _ h
theorem execUnknown34 (h : P s) : ∃ t, Machine.exec .unknown34 s = .next t ∧ P t := hP.unknownOpcode _ h
theorem execAndZpx (d : Byte) (h : P s) : ∃ t, Machine.exec (.andZpx d) s = .next t ∧ P t := ⟨_, rfl, hP.readMem 0x35 h (fun m _ => hP.and m)⟩
theorem execRolZpx (d : Byte) (h : P s) : ∃ t, Machine.exec (.rolZpx d) s = .next t ∧ P t := ⟨_, rfl, hP.modifyMem 0x36 h (fun m _ => hP.rol m)⟩
theorem execUnknown37 (h : P s) : ∃ t, Machine.exec .unknown37 s = .next t ∧ P t := hP.unknownOpcode _ h
theorem execSec (h : P s) : ∃ t, Machine.exec .sec s = .next t ∧ P t := ⟨_, rfl, hP.addCycles _ _ (hP.setC _ h)⟩
theorem execAndAby (a : Addr) (h : P s) : ∃ t, Machine.exec (.andAby a) s = .next t ∧ P t := ⟨_, rfl, hP.readMem 0x39 h (fun m _ => hP.and m)⟩
theorem execUnknown3A (h : P s) : ∃ t, Machine.exec .unknown3A s = .next t ∧ P t := hP.unknownOpcode _ h
theorem execUnknown3B (h : P s) : ∃ t, Machine.exec .unknown3B s = .next t ∧ P t := hP.unknownOpcode _ h
theorem execUnknown3C (h : P s) : ∃ t, Machine.exec .unknown3C s = .next t ∧ P t := hP.unknownOpcode _ h
theorem execAndAbx (a : Addr) (h : P s) : ∃ t, Machine.exec (.andAbx a) s = .next t ∧ P t := ⟨_, rfl, hP.readMem 0x3D h (fun m _ => hP.and m)⟩
theorem execRolAbx (a : Addr) (h : P s) : ∃ t, Machine.exec (.rolAbx a) s = .next t ∧ P t := ⟨_, rfl, hP.modifyMem 0x3E h (fun m _ => hP.rol m)⟩
theorem execUnknown3F (h : P s) : ∃ t, Machine.exec .unknown3F s = .next t ∧ P t := hP.unknownOpcode _ h
theorem execRti (h : P s) : ∃ t, Machine.exec .rti s = .next t ∧ P t := ⟨_, rfl, hP.addCycles _ _ (hP.returnFromInterrupt h)⟩
theorem execEorIzx (d : Byte) (h : P s) : ∃ t, Machine.exec (.eorIzx d) s = .next t ∧ P t := ⟨_, rfl, hP.readMem 0x41 (hP.zpRead16 _ h) (fun m _ => hP.eor m)⟩
theorem execUnknown42 (h : P s) : ∃ t, Machine.exec .unknown42 s = .next t ∧ P t := hP.unknownOpcode _ h
theorem execUnknown43 (h : P s) : ∃ t, Machine.exec .unknown43 s = .next t ∧ P t := hP.unknownOpcode _ h
theorem execUnknown44 (h : P s) : ∃ t, Machine.exec .unknown44 s = .next t ∧ P t := hP.unknownOpcode _ h
theorem execEorZp (d : Byte) (h : P s) : ∃ t, Machine.exec (.eorZp d) s = .next t ∧ P t := ⟨_, rfl, hP.readMem 0x45 h (fun m _ => hP.eor m)⟩
theorem execLsrZp (d : Byte) (h : P s) : ∃ t, Machine.exec (.lsrZp d) s = .next t ∧ P t := ⟨_, rfl, hP.modifyMem 0x46 h (fun m _ => hP.lsr m)⟩
theorem execUnknown47 (h : P s) : ∃ t, Machine.exec .unknown47 s = .next t ∧ P t := hP.unknownOpcode _ h
theorem execPha (h : P s) : ∃ t, Machine.exec .pha s = .next t ∧ P t := ⟨_, rfl, hP.addCycles _ _ (hP.push _ h)⟩
theorem execEorImm (d : Byte) (h : P s) : ∃ t, Machine.exec (.eorImm d) s = .next t ∧ P t := ⟨_, rfl, hP.addCycles _ _ (hP.eor d h)⟩
theorem execLsrAcc (h : P s) : ∃ t, Machine.exec .lsrAcc s = .next t ∧ P t := ⟨_, rfl, hP.modifyAcc 0x4A (fun m _ => hP.lsr m) h⟩
theorem execUnknown4B (h : P s) : ∃ t, Machine.exec .unknown4B s = .next t ∧ P t := hP.unknownOpcode _ h
theorem execJmpAbs (a : Addr) (h : P s) : ∃ t, Machine.exec (.jmpAbs a) s = .next t ∧ P t := ⟨_, rfl, hP.addCycles _ _ (hP.setPc _ _ h)⟩
theorem execEorAbs (a : Addr) (h : P s) : ∃ t, Machine.exec (.eorAbs a) s = .next t ∧ P t := ⟨_, rfl, hP.readMem 0x4D h (fun m _ => hP.eor m)⟩
theorem execLsrAbs (a : Addr) (h : P s) : ∃ t, Machine.exec (.lsrAbs a) s = .next t ∧ P t := ⟨_, rfl, hP.modifyMem 0x4E h (fun m _ => hP.lsr m)⟩
theorem execUnknown4F (h : P s) : ∃ t, Machine.exec .unknown4F s = .next t ∧ P t := hP.unknownOpcode _ h
theorem execBvcRel (d : Byte) (h : P s) : ∃ t, Machine.exec (.bvcRel d) s = .next t ∧ P t := ⟨_, rfl, hP.branch _ _ _ h⟩
theorem execEorIzy (d : Byte) (h : P s) : ∃ t, Machine.exec (.eorIzy d) s = .next t ∧ P t := ⟨_, rfl, hP.readMem 0x51 (hP.zpRead16 _ h) (fun m _ => hP.eor m)⟩
theorem execUnknown52 (h : P s) : ∃ t, Machine.exec .unknown52 s = .next t ∧ P t := hP.unknownOpcode _ h
theorem execUnknown53 (h : P s) : ∃ t, Machine.exec .unknown53 s = .next t ∧ P t := hP.unknownOpcode _ h
theorem execUnknown54 (h : P s) : ∃ t, Machine.exec .unknown54 s = .next t ∧ P t := hP.unknownOpcode _ h
theorem execEorZpx (d : Byte) (h : P s) : ∃ t, Machine.exec (.eorZpx d) s = .next t ∧ P t := ⟨_, rfl, hP.readMem 0x55 h (fun m _ => hP.eor m)⟩
theorem execLsrZpx (d : Byte) (h : P s) : ∃ t, Machine.exec (.lsrZpx d) s = .next t ∧ P t := ⟨_, rfl, hP.modifyMem 0x56 h (fun m _ => hP.lsr m)⟩
theorem execUnknown57 (h : P s) : ∃ t, Machine.exec .unknown57 s = .next t ∧ P t := hP.unknownOpcode _ h
theorem execCli (h : P s) : ∃ t, Machine.exec .cli s = .next t ∧ P t := ⟨_, rfl, hP.addCycles _ _ (hP.setI _ h)⟩
theorem execEorAby (a : Addr) (h : P s) : ∃ t, Machine.exec (.eorAby a) s = .next t ∧ P t := ⟨_, rfl, hP.readMem 0x59 h (fun m _ => hP.eor m)⟩
theorem execUnknown5A (h : P s) : ∃ t, Machine.exec .unknown5A s = .next t ∧ P t := hP.unknownOpcode _ h
theorem execUnknown5B (h : P s) : ∃ t, Machine.exec .unknown5B s = .next t ∧ P t := hP.unknownOpcode _ h
theorem execUnknown5C (h : P s) : ∃ t, Machine.exec .unknown5C s = .next t ∧ P t := hP.unknownOpcode _ h
theorem execEorAbx (a : Addr) (h : P s) : ∃ t, Machine.exec (.eorAbx a) s = .next t ∧ P t := ⟨_, rfl, hP.readMem 0x5D h (fun m _ => hP.eor m)⟩
theorem execLsrAbx (a : Addr) (h : P s) : ∃ t, Machine.exec (.lsrAbx a) s = .next t ∧ P t := ⟨_, rfl, hP.modifyMem 0x5E h (fun m _ => hP.lsr m)⟩
theorem execUnknown5F (h : P s) : ∃ t, Machine.exec .unknown5F s = .next t ∧ P t := hP.unknownOpcode _ h
theorem execRts (h : P s) : ∃ t, Machine.exec .rts s = .next t ∧ P t := ⟨_, rfl, hP.addCycles _ _ (hP.setPc _ _ (hP.pull16 h))⟩
theorem execAdcIzx (d : Byte) (h : P s) : ∃ t, Machine.exec (.adcIzx d) s = .next t ∧ P t := ⟨_, rfl, hP.readMem 0x61 (hP.zpRead16 _ h) (fun m _ => hP.adc m)⟩
theorem execUnknown62 (h : P s) : ∃ t, Machine.exec .unknown62 s = .next t ∧ P t := hP.unknownOpcode _ h
theorem execUnknown63 (h : P s) : ∃ t, Machine.exec .unknown63 s = .next t ∧ P t := hP.unknownOpcode _ h
theorem execUnknown64 (h : P s) : ∃ t, Machine.exec .unknown64 s = .next t ∧ P t := hP.unknownOpcode _ h
theorem execAdcZp (d : Byte) (h : P s) : ∃ t, Machine.exec (.adcZp d) s = .next t ∧ P t := ⟨_, rfl, hP.readMem 0x65 h (fun m _ => hP.adc m)⟩
theorem execRorZp (d : Byte) (h : P s) : ∃ t, Machine.exec (.rorZp d) s = .next t ∧ P t := ⟨_, rfl, hP.modifyMem 0x66 h (fun m _ => hP.ror m)⟩
theorem execUnknown67 (h : P s) : ∃ t, Machine.exec .unknown67 s = .next t ∧ P t := hP.unknownOpcode _ h
theorem execPla (h : P s) : ∃ t, Machine.exec .pla s = .next t ∧ P t := ⟨_, rfl, hP.addCycles _ _ (hP.lda _ (hP.pull h))⟩
theorem execAdcImm (d : Byte) (h : P s) : ∃ t, Machine.exec (.adcImm d) s = .next t ∧ P t := ⟨_, rfl, hP.addCycles _ _ (hP.adc d h)⟩
theorem execRorAcc (h : P s) : ∃ t, Machine.exec .rorAcc s = .next t ∧ P t := ⟨_, rfl, hP.modifyAcc 0x6A (fun m _ => hP.ror m) h⟩
theorem execUnknown6B (h : P s) : ∃ t, Machine.exec .unknown6B s = .next t ∧ P t := hP.unknownOpcode _ h
theorem execJmpInd (a : Addr) (h : P s) : ∃ t, Machine.exec (.jmpInd a) s = .next t ∧ P t := ⟨_, rfl, hP.addCycles _ _ (hP.setPc _ _ (hP.memRead _ _ (hP.memRead _ _ h)))⟩
theorem execAdcAbs (a : Addr) (h : P s) : ∃ t, Machine.exec (.adcAbs a) s = .next t ∧ P t := ⟨_, rfl, hP.readMem 0x6D h (fun m _ => hP.adc m)⟩
theorem execRorAbs (a : Addr) (h : P s) : ∃ t, Machine.exec (.rorAbs a) s = .next t ∧ P t := ⟨_, rfl, hP.modifyMem 0x6E h (fun m _ => hP.ror m)⟩
theorem execUnknown6F (h : P s) : ∃ t, Machine.exec .unknown6F s = .next t ∧ P t := hP.unknownOpcode _ h
theorem execBvsRel (d : Byte) (h : P s) : ∃ t, Machine.exec (.bvsRel d) s = .next t ∧ P t := ⟨_, rfl, hP.branch _ _ _ h⟩
theorem execAdcIzy (d : Byte) (h : P s) : ∃ t, Machine.exec (.adcIzy d) s = .next t ∧ P t := ⟨_, rfl, hP.readMem 0x71 (hP.zpRead16 _ h) (fun m _ => hP.adc m)⟩
theorem execUnknown72 (h : P s) : ∃ t, Machine.exec .unknown72 s = .next t ∧ P t := hP.unknownOpcode _ h
theorem execUnknown73 (h : P s) : ∃ t, Machine.exec .unknown73 s = .next t ∧ P t := hP.unknownOpcode _ h
theorem execUnknown74 (h : P s) : ∃ t, Machine.exec .unknown74 s = .next t ∧ P t := hP.unknownOpcode _ h
theorem execAdcZpx (d : Byte) (h : P s) : ∃ t, Machine.exec (.adcZpx d) s = .next t ∧ P t := ⟨_, rfl, hP.readMem 0x75 h (fun m _ => hP.adc m)⟩
theorem execRorZpx (d : Byte) (h : P s) : ∃ t, Machine.exec (.rorZpx d) s = .next t ∧ P t := ⟨_, rfl, hP.modifyMem 0x76 h (fun m _ => hP.ror m)⟩
theorem execUnknown77 (h : P s) : ∃ t, Machine.exec .unknown77 s = .next t ∧ P t := hP.unknownOpcode _ h
theorem execSei (h : P s) : ∃ t, Machine.exec .sei s = .next t ∧ P t := ⟨_, rfl, hP.addCycles _ _ (hP.setI _ h)⟩
theorem execAdcAby (a : Addr) (h : P s) : ∃ t, Machine.exec (.adcAby a) s = .next t ∧ P t := ⟨_, rfl, hP.readMem 0x79 h (fun m _ => hP.adc m)⟩
theorem execUnknown7A (h : P s) : ∃ t, Machine.exec .unknown7A s = .next t ∧ P t := hP.unknownOpcode _ h
theorem execUnknown7B (h : P s) : ∃ t, Machine.exec .unknown7B s = .next t ∧ P t := hP.unknownOpcode _ h
theorem execUnknown7C (h : P s) : ∃ t, Machine.exec .unknown7C s = .next t ∧ P t := hP.unknownOpcode _ h
theorem execAdcAbx (a : Addr) (h : P s) : ∃ t, Machine.exec (.adcAbx a) s = .next t ∧ P t := ⟨_, rfl, hP.readMem 0x7D h (fun m _ => hP.adc m)⟩
theorem execRorAbx (a : Addr) (h : P s) : ∃ t, Machine.exec (.rorAbx a) s = .next t ∧ P t := ⟨_, rfl, hP.modifyMem 0x7E h (fun m _ => hP.ror m)⟩
theorem execUnknown7F (h : P s) : ∃ t, Machine.exec .unknown7F s = .next t ∧ P t := hP.unknownOpcode _ h
theorem execUnknown80 (h : P s) : ∃ t, Machine.exec .unknown80 s = .next t ∧ P t := hP.unknownOpcode _ h
theorem execStaIzx (d : Byte) (h : P s) : ∃ t, Machine.exec (.staIzx d) s = .next t ∧ P t := ⟨_, rfl, hP.writeMem 0x81 (hP.zpRead16 _ h) _⟩
theorem execUnknown82 (h : P s) : ∃ t, Machine.exec .unknown82 s = .next t ∧ P t := hP.unknownOpcode _ h
theorem execUnknown83 (h : P s) : ∃ t, Machine.exec .unknown83 s = .next t ∧ P t := hP.unknownOpcode _ h
theorem execStyZp (d : Byte) (h : P s) : ∃ t, Machine.exec (.styZp d) s = .next t ∧ P t := ⟨_, rfl, hP.writeMem 0x84 h _⟩
theorem execStaZp (d : Byte) (h : P s) : ∃ t, Machine.exec (.staZp d) s = .next t ∧ P t := ⟨_, rfl, hP.writeMem 0x85 h _⟩
theorem execStxZp (d : Byte) (h : P s) : ∃ t, Machine.exec (.stxZp d) s = .next t ∧ P t := ⟨_, rfl, hP.writeMem 0x86 h _⟩
theorem execUnknown87 (h : P s) : ∃ t, Machine.exec .unknown87 s = .next t ∧ P t := hP.unknownOpcode _ h
theorem execDey (h : P s) : ∃ t, Machine.exec .dey s = .next t ∧ P t := ⟨_, rfl, hP.addCycles _ _ (hP.ldy _ h)⟩
theorem execUnknown89 (h : P s) : ∃ t, Machine.exec .unknown89 s = .next t ∧ P t := hP.unknownOpcode _ h
theorem execTxa (h : P s) : ∃ t, Machine.exec .txa s = .next t ∧ P t := ⟨_, rfl, hP.addCycles _ _ (hP.lda _ h)⟩
theorem execUnknown8B (h : P s) : ∃ t, Machine.exec .unknown8B s = .next t ∧ P t := hP.unknownOpcode _ h
theorem execStyAbs (a : Addr) (h : P s) : ∃ t, Machine.exec (.styAbs a) s = .next t ∧ P t := ⟨_, rfl, hP.writeMem 0x8C h _⟩
theorem execStaAbs (a : Addr) (h : P s) : ∃ t, Machine.exec (.staAbs a) s = .next t ∧ P t := ⟨_, rfl, hP.writeMem 0x8D h _⟩
theorem execStxAbs (a : Addr) (h : P s) : ∃ t, Machine.exec (.stxAbs a) s = .next t ∧ P t := ⟨_, rfl, hP.writeMem 0x8E h _⟩
theorem execUnknown8F (h : P s) : ∃ t, Machine.exec .unknown8F s = .next t ∧ P t := hP.unknownOpcode _ h
theorem execBccRel (d : Byte) (h : P s) : ∃ t, Machine.exec (.bccRel d) s = .next t ∧ P t := ⟨_, rfl, hP.branch _ _ _ h⟩
theorem execStaIzy (d : Byte) (h : P s) : ∃ t, Machine.exec (.staIzy d) s = .next t ∧ P t := ⟨_, rfl, hP.writeMem 0x91 (hP.zpRead16 _ h) _⟩
theorem execUnknown92 (h : P s) : ∃ t, Machine.exec .unknown92 s = .next t ∧ P t := hP.unknownOpcode _ h
theorem execUnknown93 (h : P s) : ∃ t, Machine.exec .unknown93 s = .next t ∧ P t := hP.unknownOpcode _ h
theorem execStyZpx (d : Byte) (h : P s) : ∃ t, Machine.exec (.styZpx d) s = .next t ∧ P t := ⟨_, rfl, hP.writeMem 0x94 h _⟩
theorem execStaZpx (d : Byte) (h : P s) : ∃ t, Machine.exec (.staZpx d) s = .next t ∧ P t := ⟨_, rfl, hP.writeMem 0x95 h _⟩
theorem execStxZpy (d : Byte) (h : P s) : ∃ t, Machine.exec (.stxZpy d) s = .next t ∧ P t := ⟨_, rfl, hP.writeMem 0x96 h _⟩
theorem execUnknown97 (h : P s) : ∃ t, Machine.exec .unknown97 s = .next t ∧ P t := hP.unknownOpcode _ h
theorem execTya (h : P s) : ∃ t, Machine.exec .tya s = .next t ∧ P t := ⟨_, rfl, hP.addCycles _ _ (hP.lda _ h)⟩
theorem execStaAby (a : Addr) (h : P s) : ∃ t, Machine.exec (.staAby a) s = .next t ∧ P t := ⟨_, rfl, hP.writeMem 0x99 h _⟩
theorem execTxs (h : P s) : ∃ t, Machine.exec .txs s = .next t ∧ P t := ⟨_, rfl, hP.addCycles _ _ (hP.setSp _ _ h)⟩
theorem execUnknown9B (h : P s) : ∃ t, Machine.exec .unknown9B s = .next t ∧ P t := hP.unknownOpcode _ h
theorem execUnknown9C (h : P s) : ∃ t, Machine.exec .unknown9C s = .next t ∧ P t := hP.unknownOpcode _ h
theorem execStaAbx (a : Addr) (h : P s) : ∃ t, Machine.exec (.staAbx a) s = .next t ∧ P t := ⟨_, rfl, hP.writeMem 0x9D h _⟩
theorem execUnknown9E (h : P s) : ∃ t, Machine.exec .unknown9E s = .next t ∧ P t := hP.unknownOpcode _ h
theorem execUnknown9F (h : P s) : ∃ t, Machine.exec .unknown9F s = .next t ∧ P t := hP.unknownOpcode _ h
theorem execLdyImm (d : Byte) (h : P s) : ∃ t, Machine.exec (.ldyImm d) s = .next t ∧ P t := ⟨_, rfl, hP.addCycles _ _ (hP.ldy d h)⟩
theorem execLdaIzx (d : Byte) (h : P s) : ∃ t, Machine.exec (.ldaIzx d) s = .next t ∧ P t := ⟨_, rfl, hP.readMem 0xA1 (hP.zpRead16 _ h) (fun m _ => hP.lda m)⟩
theorem execLdxImm (d : Byte) (h : P s) : ∃ t, Machine.exec (.ldxImm d) s = .next t ∧ P t := ⟨_, rfl, hP.addCycles _ _ (hP.ldx d h)⟩
theorem execUnknownA3 (h : P s) : ∃ t, Machine.exec .unknownA3 s = .next t ∧ P t := hP.unknownOpcode _ h
theorem execLdyZp (d : Byte) (h : P s) : ∃ t, Machine.exec (.ldyZp d) s = .next t ∧ P t := ⟨_, rfl, hP.readMem 0xA4 h (fun m _ => hP.ldy m)⟩
theorem execLdaZp (d : Byte) (h : P s) : ∃ t, Machine.exec (.ldaZp d) s = .next t ∧ P t := ⟨_, rfl, hP.readMem 0xA5 h (fun m _ => hP.lda m)⟩
theorem execLdxZp (d : Byte) (h : P s) : ∃ t, Machine.exec (.ldxZp d) s = .next t ∧ P t := ⟨_, rfl, hP.readMem 0xA6 h (fun m _ => hP.ldx m)⟩
theorem execUnknownA7 (h : P s) : ∃ t, Machine.exec .unknownA7 s = .next t ∧ P t := hP.unknownOpcode _ h
theorem execTay (h : P s) : ∃ t, Machine.exec .tay s = .next t ∧ P t := ⟨_, rfl, hP.addCycles _ _ (hP.ldy _ h)⟩
theorem execLdaImm (d : Byte) (h : P s) : ∃ t, Machine.exec (.ldaImm d) s = .next t ∧ P t := ⟨_, rfl, hP.addCycles _ _ (hP.lda d h)⟩
theorem execTax (h : P s) : ∃ t, Machine.exec .tax s = .next t ∧ P t := ⟨_, rfl, hP.addCycles _ _ (hP.ldx _ h)⟩
theorem execUnknownAB (h : P s) : ∃ t, Machine.exec .unknownAB s = .next t ∧ P t := hP.unknownOpcode _ h
theorem execLdyAbs (a : Addr) (h : P s) : ∃ t, Machine.exec (.ldyAbs a) s = .next t ∧ P t := ⟨_, rfl, hP.readMem 0xAC h (fun m _ => hP.ldy m)⟩
theorem execLdaAbs (a : Addr) (h : P s) : ∃ t, Machine.exec (.ldaAbs a) s = .next t ∧ P t := ⟨_, rfl, hP.readMem 0xAD h (fun m _ => hP.lda m)⟩
theorem execLdxAbs (a : Addr) (h : P s) : ∃ t, Machine.exec (.ldxAbs a) s = .next t ∧ P t := ⟨_, rfl, hP.readMem 0xAE h (fun m _ => hP.ldx m)⟩
theorem execUnknownAF (h : P s) : ∃ t, Machine.exec .unknownAF s = .next t ∧ P t := hP.unknownOpcode _ h
theorem execBcsRel (d : Byte) (h : P s) : ∃ t, Machine.exec (.bcsRel d) s = .next t ∧ P t := ⟨_, rfl, hP.branch _ _ _ h⟩
theorem execLdaIzy (d : Byte) (h : P s) : ∃ t, Machine.exec (.ldaIzy d) s = .next t ∧ P t := ⟨_, rfl, hP.readMem 0xB1 (hP.zpRead16 _ h) (fun m _ => hP.lda m)⟩
theorem execUnknownB2 (h : P s) : ∃ t, Machine.exec .unknownB2 s = .next t ∧ P t := hP.unknownOpcode _ h
theorem execUnknownB3 (h : P s) : ∃ t, Machine.exec .unknownB3 s = .next t ∧ P t := hP.unknownOpcode _ h
theorem execLdyZpx (d : Byte) (h : P s) : ∃ t, Machine.exec (.ldyZpx d) s = .next t ∧ P t := ⟨_, rfl, hP.readMem 0xB4 h (fun m _ => hP.ldy m)⟩
theorem execLdaZpx (d : Byte) (h : P s) : ∃ t, Machine.exec (.ldaZpx d) s = .next t ∧ P t := ⟨_, rfl, hP.readMem 0xB5 h (fun m _ => hP.lda m)⟩
theorem execLdxZpy (d : Byte) (h : P s) : ∃ t, Machine.exec (.ldxZpy d) s = .next t ∧ P t := ⟨_, rfl, hP.readMem 0xB6 h (fun m _ => hP.ldx m)⟩
theorem execUnknownB7 (h : P s) : ∃ t, Machine.exec .unknownB7 s = .next t ∧ P t := hP.unknownOpcode _ h
theorem execClv (h : P s) : ∃ t, Machine.exec .clv s = .next t ∧ P t := ⟨_, rfl, hP.addCycles _ _ (hP.setV _ h)⟩
theorem execLdaAby (a : Addr) (h : P s) : ∃ t, Machine.exec (.ldaAby a) s = .next t ∧ P t := ⟨_, rfl, hP.readMem 0xB9 h (fun m _ => hP.lda m)⟩
theorem execTsx (h : P s) : ∃ t, Machine.exec .tsx s = .next t ∧ P t := ⟨_, rfl, hP.addCycles _ _ (hP.ldx _ h)⟩
theorem execUnknownBB (h : P s) : ∃ t, Machine.exec .unknownBB s = .next t ∧ P t := hP.unknownOpcode _ h
theorem execLdyAbx (a : Addr) (h : P s) : ∃ t, Machine.exec (.ldyAbx a) s = .next t ∧ P t := ⟨_, rfl, hP.readMem 0xBC h (fun m _ => hP.ldy m)⟩
theorem execLdaAbx (a : Addr) (h : P s) : ∃ t, Machine.exec (.ldaAbx a) s = .next t ∧ P t := ⟨_, rfl, hP.readMem 0xBD h (fun m _ => hP.lda m)⟩
theorem execLdxAby (a : Addr) (h : P s) : ∃ t, Machine.exec (.ldxAby a) s = .next t ∧ P t := ⟨_, rfl, hP.readMem 0xBE h (fun m _ => hP.ldx m)⟩
theorem execUnknownBF (h : P s) : ∃ t, Machine.exec .unknownBF s = .next t ∧ P t := hP.unknownOpcode _ h
theorem execCpyImm (d : Byte) (h : P s) : ∃ t, Machine.exec (.cpyImm d) s = .next t ∧ P t := ⟨_, rfl, hP.addCycles _ _ (hP.cmp _ d h)⟩
theorem execCmpIzx (d : Byte) (h : P s) : ∃ t, Machine.exec (.cmpIzx d) s = .next t ∧ P t := ⟨_, rfl, hP.readMem 0xC1 (hP.zpRead16 _ h) (fun m t => hP.cmp t.a m)⟩
theorem execUnknownC2 (h : P s) : ∃ t, Machine.exec .unknownC2 s = .next t ∧ P t := hP.unknownOpcode _ h
theorem execUnknownC3 (h : P s) : ∃ t, Machine.exec .unknownC3 s = .next t ∧ P t := hP.unknownOpcode _ h
theorem execCpyZp (d : Byte) (h : P s) : ∃ t, Machine.exec (.cpyZp d) s = .next t ∧ P t := ⟨_, rfl, hP.readMem 0xC4 h (fun m t => hP.cmp t.y m)⟩
theorem execCmpZp (d : Byte) (h : P s) : ∃ t, Machine.exec (.cmpZp d) s = .next t ∧ P t := ⟨_, rfl, hP.readMem 0xC5 h (fun m t => hP.cmp t.a m)⟩
theorem execDecZp (d : Byte) (h : P s) : ∃ t, Machine.exec (.decZp d) s = .next t ∧ P t := ⟨_, rfl, hP.modifyMem 0xC6 h (fun _ _ ht => ht)⟩
theorem execUnknownC7 (h : P s) : ∃ t, Machine.exec .unknownC7 s = .next t ∧ P t := hP.unknownOpcode _ h
theorem execIny (h : P s) : ∃ t, Machine.exec .iny s = .next t ∧ P t := ⟨_, rfl, hP.addCycles _ _ (hP.ldy _ h)⟩
theorem execCmpImm (d : Byte) (h : P s) : ∃ t, Machine.exec (.cmpImm d) s = .next t ∧ P t := ⟨_, rfl, hP.addCycles _ _ (hP.cmp _ d h)⟩
theorem execDex (h : P s) : ∃ t, Machine.exec .dex s = .next t ∧ P t := ⟨_, rfl, hP.addCycles _ _ (hP.ldx _ h)⟩
theorem execUnknownCB (h : P s) : ∃ t, Machine.exec .unknownCB s = .next t ∧ P t := hP.unknownOpcode _ h
theorem execCpyAbs (a : Addr) (h : P s) : ∃ t, Machine.exec (.cpyAbs a) s = .next t ∧ P t := ⟨_, rfl, hP.readMem 0xCC h (fun m t => hP.cmp t.y m)⟩
theorem execCmpAbs (a : Addr) (h : P s) : ∃ t, Machine.exec (.cmpAbs a) s = .next t ∧ P t := ⟨_, rfl, hP.readMem 0xCD h (fun m t => hP.cmp t.a m)⟩
theorem execDecAbs (a : Addr) (h : P s) : ∃ t, Machine.exec (.decAbs a) s = .next t ∧ P t := ⟨_, rfl, hP.modifyMem 0xCE h (fun _ _ ht => ht)⟩
theorem execUnknownCF (h : P s) : ∃ t, Machine.exec .unknownCF s = .next t ∧ P t := hP.unknownOpcode _ h
theorem execBneRel (d : Byte) (h : P s) : ∃ t, Machine.exec (.bneRel d) s = .next t ∧ P t := ⟨_, rfl, hP.branch _ _ _ h⟩
theorem execCmpIzy (d : Byte) (h : P s) : ∃ t, Machine.exec (.cmpIzy d) s = .next t ∧ P t := ⟨_, rfl, hP.readMem 0xD1 (hP.zpRead16 _ h) (fun m t => hP.cmp t.a m)⟩
theorem execUnknownD2 (h : P s) : ∃ t, Machine.exec .unknownD2 s = .next t ∧ P t := hP.unknownOpcode _ h
theorem execUnknownD3 (h : P s) : ∃ t, Machine.exec .unknownD3 s = .next t ∧ P t := hP.unknownOpcode _ h
theorem execUnknownD4 (h : P s) : ∃ t, Machine.exec .unknownD4 s = .next t ∧ P t := hP.unknownOpcode _ h
theorem execCmpZpx (d : Byte) (h : P s) : ∃ t, Machine.exec (.cmpZpx d) s = .next t ∧ P t := ⟨_, rfl, hP.readMem 0xD5 h (fun m t => hP.cmp t.a m)⟩
theorem execDecZpx (d : Byte) (h : P s) : ∃ t, Machine.exec (.decZpx d) s = .next t ∧ P t := ⟨_, rfl, hP.modifyMem 0xD6 h (fun _ _ ht => ht)⟩
theorem execUnknownD7 (h : P s) : ∃ t, Machine.exec .unknownD7 s = .next t ∧ P t := hP.unknownOpcode _ h
theorem execCld (h : P s) : ∃ t, Machine.exec .cld s = .next t ∧ P t := ⟨_, rfl, hP.addCycles _ _ (hP.setD _ h)⟩
theorem execCmpAby (a : Addr) (h : P s) : ∃ t, Machine.exec (.cmpAby a) s = .next t ∧ P t := ⟨_, rfl, hP.readMem 0xD9 h (fun m t => hP.cmp t.a m)⟩
theorem execUnknownDA (h : P s) : ∃ t, Machine.exec .unknownDA s = .next t ∧ P t := hP.unknownOpcode _ h
theorem execUnknownDB (h : P s) : ∃ t, Machine.exec .unknownDB s = .next t ∧ P t := hP.unknownOpcode _ h
theorem execUnknownDC (h : P s) : ∃ t, Machine.exec .unknownDC s = .next t ∧ P t := hP.unknownOpcode _ h
theorem execCmpAbx (a : Addr) (h : P s) : ∃ t, Machine.exec (.cmpAbx a) s = .next t ∧ P t := ⟨_, rfl, hP.readMem 0xDD h (fun m t => hP.cmp t.a m)⟩
theorem execDecAbx (a : Addr) (h : P s) : ∃ t, Machine.exec (.decAbx a) s = .next t ∧ P t := ⟨_, rfl, hP.modifyMem 0xDE h (fun _ _ ht => ht)⟩
theorem execUnknownDF (h : P s) : ∃ t, Machine.exec .unknownDF s = .next t ∧ P t := hP.unknownOpcode _ h
theorem execCpxImm (d : Byte) (h : P s) : ∃ t, Machine.exec (.cpxImm d) s = .next t ∧ P t := ⟨_, rfl, hP.addCycles _ _ (hP.cmp _ d h)⟩
theorem execSbcIzx (d : Byte) (h : P s) : ∃ t, Machine.exec (.sbcIzx d) s = .next t ∧ P t := ⟨_, rfl, hP.readMem 0xE1 (hP.zpRead16 _ h) (fun m _ => hP.sbc m)⟩
theorem execUnknownE2 (h : P s) : ∃ t, Machine.exec .unknownE2 s = .next t ∧ P t := hP.unknownOpcode _ h
theorem execUnknownE3 (h : P s) : ∃ t, Machine.exec .unknownE3 s = .next t ∧ P t := hP.unknownOpcode _ h
theorem execCpxZp (d : Byte) (h : P s) : ∃ t, Machine.exec (.cpxZp d) s = .next t ∧ P t := ⟨_, rfl, hP.readMem 0xE4 h (fun m t => hP.cmp t.x m)⟩
theorem execSbcZp (d : Byte) (h : P s) : ∃ t, Machine.exec (.sbcZp d) s = .next t ∧ P t := ⟨_, rfl, hP.readMem 0xE5 h (fun m _ => hP.sbc m)⟩
theorem execIncZp (d : Byte) (h : P s) : ∃ t, Machine.exec (.incZp d) s = .next t ∧ P t := ⟨_, rfl, hP.modifyMem 0xE6 h (fun _ _ ht => ht)⟩
theorem execUnknownE7 (h : P s) : ∃ t, Machine.exec .unknownE7 s = .next t ∧ P t := hP.unknownOpcode _ h
theorem execInx (h : P s) : ∃ t, Machine.exec .inx s = .next t ∧ P t := ⟨_, rfl, hP.addCycles _ _ (hP.ldx _ h)⟩
theorem execSbcImm (d : Byte) (h : P s) : ∃ t, Machine.exec (.sbcImm d) s = .next t ∧ P t := ⟨_, rfl, hP.addCycles _ _ (hP.sbc d h)⟩
theorem execNop (h : P s) : ∃ t, Machine.exec .nop s = .next t ∧ P t := ⟨_, rfl, hP.addCycles _ _ (h)⟩
theorem execUnknownEB (h : P s) : ∃ t, Machine.exec .unknownEB s = .next t ∧ P t := hP.unknownOpcode _ h
theorem execCpxAbs (a : Addr) (h : P s) : ∃ t, Machine.exec (.cpxAbs a) s = .next t ∧ P t := ⟨_, rfl, hP.readMem 0xEC h (fun m t => hP.cmp t.x m)⟩
theorem execSbcAbs (a : Addr) (h : P s) : ∃ t, Machine.exec (.sbcAbs a) s = .next t ∧ P t := ⟨_, rfl, hP.readMem 0xED h (fun m _ => hP.sbc m)⟩
theorem execIncAbs (a : Addr) (h : P s) : ∃ t, Machine.exec (.incAbs a) s = .next t ∧ P t := ⟨_, rfl, hP.modifyMem 0xEE h (fun _ _ ht => ht)⟩
theorem execUnknownEF (h : P s) : ∃ t, Machine.exec .unknownEF s = .next t ∧ P t := hP.unknownOpcode _ h
theorem execBeqRel (d : Byte) (h : P s) : ∃ t, Machine.exec (.beqRel d) s = .next t ∧ P t := ⟨_, rfl, hP.branch _ _ _ h⟩
theorem execSbcIzy (d : Byte) (h : P s) : ∃ t, Machine.exec (.sbcIzy d) s = .next t ∧ P t := ⟨_, rfl, hP.readMem 0xF1 (hP.zpRead16 _ h) (fun m _ => hP.sbc m)⟩
theorem execUnknownF2 (h : P s) : ∃ t, Machine.exec .unknownF2 s = .next t ∧ P t := hP.unknownOpcode _ h
theorem execUnknownF3 (h : P s) : ∃ t, Machine.exec .unknownF3 s = .next t ∧ P t := hP.unknownOpcode _ h
theorem execUnknownF4 (h : P s) : ∃ t, Machine.exec .unknownF4 s = .next t ∧ P t := hP.unknownOpcode _ h
theorem execSbcZpx (d : Byte) (h : P s) : ∃ t, Machine.exec (.sbcZpx d) s = .next t ∧ P t := ⟨_, rfl, hP.readMem 0xF5 h (fun m _ => hP.sbc m)⟩
theorem execIncZpx (d : Byte) (h : P s) : ∃ t, Machine.exec (.incZpx d) s = .next t ∧ P t := ⟨_, rfl, hP.modifyMem 0xF6 h (fun _ _ ht => ht)⟩
theorem execUnknownF7 (h : P s) : ∃ t, Machine.exec .unknownF7 s = .next t ∧ P t := hP.unknownOpcode _ h
theorem execSed (h : P s) : ∃ t, Machine.exec .sed s = .next t ∧ P t := ⟨_, rfl, hP.addCycles _ _ (hP.setD _ h)⟩
theorem execSbcAby (a : Addr) (h : P s) : ∃ t, Machine.exec (.sbcAby a) s = .next t ∧ P t := ⟨_, rfl, hP.readMem 0xF9 h (fun m _ => hP.sbc m)⟩
theorem execUnknownFA (h : P s) : ∃ t, Machine.exec .unknownFA s = .next t ∧ P t := hP.unknownOpcode _ h
theorem execUnknownFB (h : P s) : ∃ t, Machine.exec .unknownFB s = .next t ∧ P t := hP.unknownOpcode _ h
theorem execUnknownFC (h : P s) : ∃ t, Machine.exec .unknownFC s = .next t ∧ P t := hP.unknownOpcode _ h
theorem execSbcAbx (a : Addr) (h : P s) : ∃ t, Machine.exec (.sbcAbx a) s = .next t ∧ P t := ⟨_, rfl, hP.readMem 0xFD h (fun m _ => hP.sbc m)⟩
theorem execIncAbx (a : Addr) (h : P s) : ∃ t, Machine.exec (.incAbx a) s = .next t ∧ P t := ⟨_, rfl, hP.modifyMem 0xFE h (fun _ _ ht => ht)⟩
theorem execUnknownFF (h : P s) : ∃ t, Machine.exec .unknownFF s = .next t ∧ P t := hP.unknownOpcode _ h

/-- Every instruction completes, and keeps the property. -/
theorem exec (i : Instr) (h : P s) : ∃ t, Machine.exec i s = .next t ∧ P t := by
  cases i with
  | brk => exact hP.execBrk h
  | oraIzx d => exact hP.execOraIzx d h
  | unknown02 => exact hP.execUnknown02 h
  | unknown03 => exact hP.execUnknown03 h
  | unknown04 => exact hP.execUnknown04 h
  | oraZp d => exact hP.execOraZp d h
  | aslZp d => exact hP.execAslZp d h
  | unknown07 => exact hP.execUnknown07 h
  | php => exact hP.execPhp h
  | oraImm d => exact hP.execOraImm d h
  | aslAcc => exact hP.execAslAcc h
  | unknown0B => exact hP.execUnknown0B h
  | unknown0C => exact hP.execUnknown0C h
  | oraAbs a => exact hP.execOraAbs a h
  | aslAbs a => exact hP.execAslAbs a h
  | unknown0F => exact hP.execUnknown0F h
  | bplRel d => exact hP.execBplRel d h
  | oraIzy d => exact hP.execOraIzy d h
  | unknown12 => exact hP.execUnknown12 h
  | unknown13 => exact hP.execUnknown13 h
  | unknown14 => exact hP.execUnknown14 h
  | oraZpx d => exact hP.execOraZpx d h
  | aslZpx d => exact hP.execAslZpx d h
  | unknown17 => exact hP.execUnknown17 h
  | clc => exact hP.execClc h
  | oraAby a => exact hP.execOraAby a h
  | unknown1A => exact hP.execUnknown1A h
  | unknown1B => exact hP.execUnknown1B h
  | unknown1C => exact hP.execUnknown1C h
  | oraAbx a => exact hP.execOraAbx a h
  | aslAbx a => exact hP.execAslAbx a h
  | unknown1F => exact hP.execUnknown1F h
  | jsrAbs a => exact hP.execJsrAbs a h
  | andIzx d => exact hP.execAndIzx d h
  | unknown22 => exact hP.execUnknown22 h
  | unknown23 => exact hP.execUnknown23 h
  | bitZp d => exact hP.execBitZp d h
  | andZp d => exact hP.execAndZp d h
  | rolZp d => exact hP.execRolZp d h
  | unknown27 => exact hP.execUnknown27 h
  | plp => exact hP.execPlp h
  | andImm d => exact hP.execAndImm d h
  | rolAcc => exact hP.execRolAcc h
  | unknown2B => exact hP.execUnknown2B h
  | bitAbs a => exact hP.execBitAbs a h
  | andAbs a => exact hP.execAndAbs a h
  | rolAbs a => exact hP.execRolAbs a h
  | unknown2F => exact hP.execUnknown2F h
  | bmiRel d => exact hP.execBmiRel d h
  | andIzy d => exact hP.execAndIzy d h
  | unknown32 => exact hP.execUnknown32 h
  | unknown33 => exact hP.execUnknown33 h
  | unknown34 => exact hP.execUnknown34 h
  | andZpx d => exact hP.execAndZpx d h
  | rolZpx d => exact hP.execRolZpx d h
  | unknown37 => exact hP.execUnknown37 h
  | sec => exact hP.execSec h
  | andAby a => exact hP.execAndAby a h
  | unknown3A => exact hP.execUnknown3A h
  | unknown3B => exact hP.execUnknown3B h
  | unknown3C => exact hP.execUnknown3C h
  | andAbx a => exact hP.execAndAbx a h
  | rolAbx a => exact hP.execRolAbx a h
  | unknown3F => exact hP.execUnknown3F h
  | rti => exact hP.execRti h
  | eorIzx d => exact hP.execEorIzx d h
  | unknown42 => exact hP.execUnknown42 h
  | unknown43 => exact hP.execUnknown43 h
  | unknown44 => exact hP.execUnknown44 h
  | eorZp d => exact hP.execEorZp d h
  | lsrZp d => exact hP.execLsrZp d h
  | unknown47 => exact hP.execUnknown47 h
  | pha => exact hP.execPha h
  | eorImm d => exact hP.execEorImm d h
  | lsrAcc => exact hP.execLsrAcc h
  | unknown4B => exact hP.execUnknown4B h
  | jmpAbs a => exact hP.execJmpAbs a h
  | eorAbs a => exact hP.execEorAbs a h
  | lsrAbs a => exact hP.execLsrAbs a h
  | unknown4F => exact hP.execUnknown4F h
  | bvcRel d => exact hP.execBvcRel d h
  | eorIzy d => exact hP.execEorIzy d h
  | unknown52 => exact hP.execUnknown52 h
  | unknown53 => exact hP.execUnknown53 h
  | unknown54 => exact hP.execUnknown54 h
  | eorZpx d => exact hP.execEorZpx d h
  | lsrZpx d => exact hP.execLsrZpx d h
  | unknown57 => exact hP.execUnknown57 h
  | cli => exact hP.execCli h
  | eorAby a => exact hP.execEorAby a h
  | unknown5A => exact hP.execUnknown5A h
  | unknown5B => exact hP.execUnknown5B h
  | unknown5C => exact hP.execUnknown5C h
  | eorAbx a => exact hP.execEorAbx a h
  | lsrAbx a => exact hP.execLsrAbx a h
  | unknown5F => exact hP.execUnknown5F h
  | rts => exact hP.execRts h
  | adcIzx d => exact hP.execAdcIzx d h
  | unknown62 => exact hP.execUnknown62 h
  | unknown63 => exact hP.execUnknown63 h
  | unknown64 => exact hP.execUnknown64 h
  | adcZp d => exact hP.execAdcZp d h
  | rorZp d => exact hP.execRorZp d h
  | unknown67 => exact hP.execUnknown67 h
  | pla => exact hP.execPla h
  | adcImm d => exact hP.execAdcImm d h
  | rorAcc => exact hP.execRorAcc h
  | unknown6B => exact hP.execUnknown6B h
  | jmpInd a => exact hP.execJmpInd a h
  | adcAbs a => exact hP.execAdcAbs a h
  | rorAbs a => exact hP.execRorAbs a h
  | unknown6F => exact hP.execUnknown6F h
  | bvsRel d => exact hP.execBvsRel d h
  | adcIzy d => exact hP.execAdcIzy d h
  | unknown72 => exact hP.execUnknown72 h
  | unknown73 => exact hP.execUnknown73 h
  | unknown74 => exact hP.execUnknown74 h
  | adcZpx d => exact hP.execAdcZpx d h
  | rorZpx d => exact hP.execRorZpx d h
  | unknown77 => exact hP.execUnknown77 h
  | sei => exact hP.execSei h
  | adcAby a => exact hP.execAdcAby a h
  | unknown7A => exact hP.execUnknown7A h
  | unknown7B => exact hP.execUnknown7B h
  | unknown7C => exact hP.execUnknown7C h
  | adcAbx a => exact hP.execAdcAbx a h
  | rorAbx a => exact hP.execRorAbx a h
  | unknown7F => exact hP.execUnknown7F h
  | unknown80 => exact hP.execUnknown80 h
  | staIzx d => exact hP.execStaIzx d h
  | unknown82 => exact hP.execUnknown82 h
  | unknown83 => exact hP.execUnknown83 h
  | styZp d => exact hP.execStyZp d h
  | staZp d => exact hP.execStaZp d h
  | stxZp d => exact hP.execStxZp d h
  | unknown87 => exact hP.execUnknown87 h
  | dey => exact hP.execDey h
  | unknown89 => exact hP.execUnknown89 h
  | txa => exact hP.execTxa h
  | unknown8B => exact hP.execUnknown8B h
  | styAbs a => exact hP.execStyAbs a h
  | staAbs a => exact hP.execStaAbs a h
  | stxAbs a => exact hP.execStxAbs a h
  | unknown8F => exact hP.execUnknown8F h
  | bccRel d => exact hP.execBccRel d h
  | staIzy d => exact hP.execStaIzy d h
  | unknown92 => exact hP.execUnknown92 h
  | unknown93 => exact hP.execUnknown93 h
  | styZpx d => exact hP.execStyZpx d h
  | staZpx d => exact hP.execStaZpx d h
  | stxZpy d => exact hP.execStxZpy d h
  | unknown97 => exact hP.execUnknown97 h
  | tya => exact hP.execTya h
  | staAby a => exact hP.execStaAby a h
  | txs => exact hP.execTxs h
  | unknown9B => exact hP.execUnknown9B h
  | unknown9C => exact hP.execUnknown9C h
  | staAbx a => exact hP.execStaAbx a h
  | unknown9E => exact hP.execUnknown9E h
  | unknown9F => exact hP.execUnknown9F h
  | ldyImm d => exact hP.execLdyImm d h
  | ldaIzx d => exact hP.execLdaIzx d h
  | ldxImm d => exact hP.execLdxImm d h
  | unknownA3 => exact hP.execUnknownA3 h
  | ldyZp d => exact hP.execLdyZp d h
  | ldaZp d => exact hP.execLdaZp d h
  | ldxZp d => exact hP.execLdxZp d h
  | unknownA7 => exact hP.execUnknownA7 h
  | tay => exact hP.execTay h
  | ldaImm d => exact hP.execLdaImm d h
  | tax => exact hP.execTax h
  | unknownAB => exact hP.execUnknownAB h
  | ldyAbs a => exact hP.execLdyAbs a h
  | ldaAbs a => exact hP.execLdaAbs a h
  | ldxAbs a => exact hP.execLdxAbs a h
  | unknownAF => exact hP.execUnknownAF h
  | bcsRel d => exact hP.execBcsRel d h
  | ldaIzy d => exact hP.execLdaIzy d h
  | unknownB2 => exact hP.execUnknownB2 h
  | unknownB3 => exact hP.execUnknownB3 h
  | ldyZpx d => exact hP.execLdyZpx d h
  | ldaZpx d => exact hP.execLdaZpx d h
  | ldxZpy d => exact hP.execLdxZpy d h
  | unknownB7 => exact hP.execUnknownB7 h
  | clv => exact hP.execClv h
  | ldaAby a => exact hP.execLdaAby a h
  | tsx => exact hP.execTsx h
  | unknownBB => exact hP.execUnknownBB h
  | ldyAbx a => exact hP.execLdyAbx a h
  | ldaAbx a => exact hP.execLdaAbx a h
  | ldxAby a => exact hP.execLdxAby a h
  | unknownBF => exact hP.execUnknownBF h
  | cpyImm d => exact hP.execCpyImm d h
  | cmpIzx d => exact hP.execCmpIzx d h
  | unknownC2 => exact hP.execUnknownC2 h
  | unknownC3 => exact hP.execUnknownC3 h
  | cpyZp d => exact hP.execCpyZp d h
  | cmpZp d => exact hP.execCmpZp d h
  | decZp d => exact hP.execDecZp d h
  | unknownC7 => exact hP.execUnknownC7 h
  | iny => exact hP.execIny h
  | cmpImm d => exact hP.execCmpImm d h
  | dex => exact hP.execDex h
  | unknownCB => exact hP.execUnknownCB h
  | cpyAbs a => exact hP.execCpyAbs a h
  | cmpAbs a => exact hP.execCmpAbs a h
  | decAbs a => exact hP.execDecAbs a h
  | unknownCF => exact hP.execUnknownCF h
  | bneRel d => exact hP.execBneRel d h
  | cmpIzy d => exact hP.execCmpIzy d h
  | unknownD2 => exact hP.execUnknownD2 h
  | unknownD3 => exact hP.execUnknownD3 h
  | unknownD4 => exact hP.execUnknownD4 h
  | cmpZpx d => exact hP.execCmpZpx d h
  | decZpx d => exact hP.execDecZpx d h
  | unknownD7 => exact hP.execUnknownD7 h
  | cld => exact hP.execCld h
  | cmpAby a => exact hP.execCmpAby a h
  | unknownDA => exact hP.execUnknownDA h
  | unknownDB => exact hP.execUnknownDB h
  | unknownDC => exact hP.execUnknownDC h
  | cmpAbx a => exact hP.execCmpAbx a h
  | decAbx a => exact hP.execDecAbx a h
  | unknownDF => exact hP.execUnknownDF h
  | cpxImm d => exact hP.execCpxImm d h
  | sbcIzx d => exact hP.execSbcIzx d h
  | unknownE2 => exact hP.execUnknownE2 h
  | unknownE3 => exact hP.execUnknownE3 h
  | cpxZp d => exact hP.execCpxZp d h
  | sbcZp d => exact hP.execSbcZp d h
  | incZp d => exact hP.execIncZp d h
  | unknownE7 => exact hP.execUnknownE7 h
  | inx => exact hP.execInx h
  | sbcImm d => exact hP.execSbcImm d h
  | nop => exact hP.execNop h
  | unknownEB => exact hP.execUnknownEB h
  | cpxAbs a => exact hP.execCpxAbs a h
  | sbcAbs a => exact hP.execSbcAbs a h
  | incAbs a => exact hP.execIncAbs a h
  | unknownEF => exact hP.execUnknownEF h
  | beqRel d => exact hP.execBeqRel d h
  | sbcIzy d => exact hP.execSbcIzy d h
  | unknownF2 => exact hP.execUnknownF2 h
  | unknownF3 => exact hP.execUnknownF3 h
  | unknownF4 => exact hP.execUnknownF4 h
  | sbcZpx d => exact hP.execSbcZpx d h
  | incZpx d => exact hP.execIncZpx d h
  | unknownF7 => exact hP.execUnknownF7 h
  | sed => exact hP.execSed h
  | sbcAby a => exact hP.execSbcAby a h
  | unknownFA => exact hP.execUnknownFA h
  | unknownFB => exact hP.execUnknownFB h
  | unknownFC => exact hP.execUnknownFC h
  | sbcAbx a => exact hP.execSbcAbx a h
  | incAbx a => exact hP.execIncAbx a h
  | unknownFF => exact hP.execUnknownFF h

end Closed

end Sys2Proof.Machine
end

