-- ==== Sys2Proof/Laws/Inv.lean ====
section
/-! SUPPORT. What the parts of a step keep of the invariant of Safety.lean: bus accesses, the mapper, the PPU and APU, reset. -/

namespace Sys2Proof.Machine

/-! ## The PPU's memories -/

namespace Ppu

/-- Two states of the PPU with the same memories. -/
structure SameMemories (p q : Ppu) : Prop where
  pattern : p.pattern = q.pattern
  nt : p.nt = q.nt
  palette : p.palette = q.palette
  oam : p.oam = q.oam
  spriteLine : p.spriteLine = q.spriteLine
  frame : p.frame = q.frame

theorem SameMemories.ok {p q : Ppu} (h : SameMemories p q) (hq : q.Ok) : p.Ok :=
  ⟨h.1 ▸ hq.1, h.2 ▸ hq.2, h.3 ▸ hq.3, h.4 ▸ hq.4, h.5 ▸ hq.5, h.6 ▸ hq.6⟩

/-- R302, R304, R307: a port read writes no memory of the PPU. -/
theorem readPort_memories (n : Nat) (p : Ppu) : SameMemories (p.readPort n).2 p := by
  unfold readPort readData
  dsimp only
  repeat' split
  all_goals exact ⟨rfl, rfl, rfl, rfl, rfl, rfl⟩

theorem ntIndex_lt (m : Mirroring) (a : Nat) : ntIndex m a < 4096 := by
  have h : ntBuffer m (a / 1024 % 4) ≤ 3 := by
    cases m <;> simp only [ntBuffer] <;> omega
  unfold ntIndex
  omega

theorem paletteIndex_lt (a : Nat) : paletteIndex a < 32 := by
  unfold paletteIndex
  dsimp only
  split <;> omega

theorem write_ok {p : Ppu} (h : p.Ok) (addr : Nat) (d : Byte) : (p.write addr d).Ok := by
  unfold write
  dsimp only
  split
  · exact ⟨Memory.wf_write h.pattern (by assumption) d, h.2, h.3, h.4, h.5, h.6⟩
  split
  · exact ⟨h.1, Memory.wf_write h.nt (ntIndex_lt _ _) d, h.3, h.4, h.5, h.6⟩
  split
  · exact ⟨h.1, Memory.wf_write h.nt (ntIndex_lt _ _) d, h.3, h.4, h.5, h.6⟩
  · exact ⟨h.1, h.2, Sparse.wf_write h.palette (paletteIndex_lt _) _, h.4, h.5, h.6⟩

theorem writeBlock_ok {p : Ppu} (h : p.Ok) (a n : Nat) (f : Nat → Byte) : (p.writeBlock a n f).Ok :=
  foldl_keeps _ Ppu.Ok (fun _ i hq => write_ok hq (a + i) (f i)) _ p h

theorem writePort_ok {p : Ppu} (h : p.Ok) (chrRom : Bool) (n : Nat) (d : Byte) : (p.writePort chrRom n d).Ok := by
  unfold writePort
  split
  · exact ⟨h.1, h.2, h.3, h.4, h.5, h.6⟩
  · exact ⟨h.1, h.2, h.3, h.4, h.5, h.6⟩
  · exact ⟨h.1, h.2, h.3, h.4, h.5, h.6⟩
  · exact ⟨h.1, h.2, h.3, Memory.wf_write h.oam p.oamAddr.isLt d, h.5, h.6⟩
  · unfold writeScroll
    split <;> exact ⟨h.1, h.2, h.3, h.4, h.5, h.6⟩
  · unfold writeAddress
    split <;> exact ⟨h.1, h.2, h.3, h.4, h.5, h.6⟩
  · have hw : (p.writeCpu chrRom (ppuAddr p.v) d).Ok := by
      unfold writeCpu
      split
      · exact h
      · exact write_ok h _ d
    exact ⟨hw.1, hw.2, hw.3, hw.4, hw.5, hw.6⟩
  · exact h

theorem emit_ok {p : Ppu} (h : p.Ok) (skip : Bool) (n c : Nat) (hc : c < 256) (e : BitVec 6) : (p.emit skip n c e).Ok := by
  unfold emit
  split
  · exact ⟨h.1, h.2, h.3, h.4, h.5, Sparse.wf_write h.frame (by omega) _⟩
  · exact h

theorem renderColumn_ok {q : Ppu × BitVec 3} (h : q.1.Ok) (skip : Bool) (n c : Nat) (hc : c < 256) :
    (renderColumn skip n q c).1.Ok := by
  have h1 : (q.1.composite skip n c (q.1.background q.2 c).1 (q.1.background q.2 c).2).Ok := by
    unfold composite
    dsimp only
    refine emit_ok ?_ skip n c hc _
    exact ⟨h.1, h.2, h.3, h.4, h.5, h.6⟩
  unfold renderColumn
  dsimp only
  split
  · exact ⟨h1.1, h1.2, h1.3, h1.4, h1.5, h1.6⟩
  · exact h1

theorem drawSprite_ok {p : Ppu} (h : p.Ok) (n i : Nat) : (p.drawSprite n i).Ok := by
  refine foldl_keeps _ Ppu.Ok (fun q k hq => ?_) _ p h
  unfold drawSpritePixel
  dsimp only
  generalize q.patternPixel _ _ = pix
  split
  · rename_i hc
    refine ⟨hq.1, hq.2, hq.3, hq.4, ?_, hq.6⟩
    dsimp only
    exact Sparse.wf_write hq.spriteLine (Nat.lt_succ_of_le hc.2.1) _
  · exact hq

theorem scanSprites_ok (n : Nat) (l : List Nat) (count : Nat) {p : Ppu} (h : p.Ok) : (scanSprites n l count p).Ok := by
  induction l generalizing count p with
  | nil => exact h
  | cons i l ih =>
    unfold scanSprites
    split
    · split
      · exact ⟨h.1, h.2, h.3, h.4, h.5, h.6⟩
      · exact ih _ (drawSprite_ok h n i)
    · exact ih _ h

/-- A property kept by a fold's steps over the elements of its list is kept by the fold. -/
theorem foldl_keeps_mem {α β : Type} (f : α → β → α) (P : α → Prop) (l : List β) (hf : ∀ s b, b ∈ l → P s → P (f s b))
    (s : α) (h : P s) : P (l.foldl f s) := by
  induction l generalizing s with
  | nil => exact h
  | cons b l ih => exact ih (fun t c hc => hf t c (by simp [hc])) (f s b) (hf s b (by simp) h)

theorem renderLine_ok {p : Ppu} (h : p.Ok) (skip : Bool) (n : Nat) : (p.renderLine skip n).Ok := by
  unfold renderLine
  split
  · exact h
  split
  · exact foldl_keeps_mem _ Ppu.Ok _ (fun q c hc hq => emit_ok hq skip n c (List.mem_range.mp hc) _) p h
  · have h1 := foldl_keeps_mem (renderColumn skip n) (fun q => q.1.Ok) (List.range 256)
      (fun q c hc hq => renderColumn_ok hq skip n c (List.mem_range.mp hc)) (p, p.x) h
    generalize (List.range 256).foldl (renderColumn skip n) (p, p.x) = q at h1
    exact scanSprites_ok n _ 0 ⟨h1.1, h1.2, h1.3, h1.4, rfl, h1.6⟩

theorem preRender_ok {p : Ppu} (h : p.Ok) (n : Nat) : (p.preRender n).Ok := by
  unfold preRender preRenderFlags reloadScroll
  repeat' split
  all_goals first | exact h | exact ⟨h.1, h.2, h.3, h.4, h.5, h.6⟩ | exact ⟨h.1, h.2, h.3, h.4, rfl, h.6⟩

end Ppu

/-! ## The APU -/

theorem advancePhase_ok {clocks : Rat} (hc : 0 ≤ clocks) (S : Nat) {phase : Rat} (h : phaseOk phase) :
    phaseOk (advancePhase clocks S phase).2 := by
  have h0 : (0 : Rat) ≤ phase + clocks / (S : Rat) := by
    refine Rat.add_nonneg h.1 (Rat.div_nonneg hc ?_)
    exact_mod_cast Nat.zero_le S
  have hf : (0 : Int) ≤ (phase + clocks / (S : Rat)).floor := Rat.le_floor_iff.mpr (by simpa using h0)
  have e : (((phase + clocks / (S : Rat)).floor.toNat : Nat) : Rat) = ((phase + clocks / (S : Rat)).floor : Rat) := by
    have := Int.toNat_of_nonneg hf
    exact_mod_cast this
  have h1 := Rat.floor_le (phase + clocks / (S : Rat))
  have h2 := Rat.lt_floor (x := phase + clocks / (S : Rat))
  unfold advancePhase phaseOk
  dsimp only
  rw [e]
  constructor <;> linarith

theorem clocksPerSample_nonneg : 0 ≤ Config.clocksPerSample := by
  unfold Config.clocksPerSample
  exact Rat.div_nonneg (by exact_mod_cast Nat.zero_le _) (by exact_mod_cast Nat.zero_le _)

/-- A property kept by one application is kept by every number of them. -/
theorem iterate_keeps {α : Type} (f : α → α) (P : α → Prop) (hf : ∀ s, P s → P (f s)) (n : Nat) (s : α) (h : P s) :
    P (Nat.iterate f n s) := by
  induction n generalizing s with
  | zero => exact h
  | succ n ih => exact ih (f s) (hf s h)

theorem sampleLoop_keeps {γ : Type} (amp : γ → Nat) (adv : γ → γ) (P : γ → Prop) (hf : ∀ s, P s → P (adv s)) (n : Nat)
    (s : γ) (h : P s) : P (sampleLoop amp adv n s).2 := by
  induction n generalizing s with
  | zero => exact h
  | succ n ih => exact ih (adv s) (hf s h)

theorem pulse_advance_ok {clocks : Rat} (hc : 0 ≤ clocks) (c : Pulse) (h : phaseOk c.timerPhase) :
    phaseOk (c.advance clocks).timerPhase := by
  unfold Pulse.advance
  exact iterate_keeps Pulse.tick (fun c => phaseOk c.timerPhase) (fun _ hc => hc) _ _ (advancePhase_ok hc _ h)

theorem triangle_advance_ok {clocks : Rat} (hc : 0 ≤ clocks) (c : Triangle) (h : phaseOk c.timerPhase) :
    phaseOk (c.advance clocks).timerPhase := by
  unfold Triangle.advance
  refine iterate_keeps Triangle.tick (fun c => phaseOk c.timerPhase) (fun t ht => ?_) _ _ (advancePhase_ok hc _ h)
  unfold Triangle.tick
  split <;> exact ht

theorem noise_advance_ok {clocks : Rat} (hc : 0 ≤ clocks) (c : Noise) (h : phaseOk c.timerPhase) :
    phaseOk (c.advance clocks).timerPhase := by
  unfold Noise.advance
  exact iterate_keeps Noise.tick (fun c => phaseOk c.timerPhase) (fun _ hc => hc) _ _ (advancePhase_ok hc _ h)

theorem pulse_units_phase (first h q : Bool) (c : Pulse) : (c.clockUnits first h q).timerPhase = c.timerPhase := by
  unfold Pulse.clockUnits Pulse.sweepClock
  dsimp only
  repeat' split
  all_goals rfl

theorem triangle_units_phase (h q : Bool) (c : Triangle) : (c.clockUnits h q).timerPhase = c.timerPhase := by
  unfold Triangle.clockUnits Triangle.linearClock
  dsimp only
  repeat' split
  all_goals rfl

theorem noise_units_phase (h q : Bool) (c : Noise) : (c.clockUnits h q).timerPhase = c.timerPhase := by
  unfold Noise.clockUnits
  dsimp only
  repeat' split
  all_goals rfl

theorem pulseOutput_ok {clocks : Rat} (hc : 0 ≤ clocks) (n : Nat) (first h q : Bool) (c : Pulse)
    (hp : phaseOk c.timerPhase) : phaseOk (pulseOutput n clocks first h q c).2.timerPhase :=
  sampleLoop_keeps _ _ (fun c : Pulse => phaseOk c.timerPhase) (pulse_advance_ok hc) n _ (by
    rw [pulse_units_phase]; exact hp)

theorem triangleOutput_ok {clocks : Rat} (hc : 0 ≤ clocks) (n : Nat) (h q : Bool) (c : Triangle)
    (hp : phaseOk c.timerPhase) : phaseOk (triangleOutput n clocks h q c).2.timerPhase :=
  sampleLoop_keeps _ _ (fun c : Triangle => phaseOk c.timerPhase) (triangle_advance_ok hc) n _ (by
    rw [triangle_units_phase]; exact hp)

theorem noiseOutput_ok {clocks : Rat} (hc : 0 ≤ clocks) (n : Nat) (h q : Bool) (c : Noise)
    (hp : phaseOk c.timerPhase) : phaseOk (noiseOutput n clocks h q c).2.timerPhase :=
  sampleLoop_keeps _ _ (fun c : Noise => phaseOk c.timerPhase) (noise_advance_ok hc) n _ (by
    rw [noise_units_phase]; exact hp)

theorem pulse_writeReg_phase (n : Nat) (d : Byte) (c : Pulse) : (c.writeReg n d).timerPhase = c.timerPhase := by
  unfold Pulse.writeReg; split <;> rfl

theorem triangle_writeReg_phase (n : Nat) (d : Byte) (c : Triangle) : (c.writeReg n d).timerPhase = c.timerPhase := by
  unfold Triangle.writeReg; split <;> rfl

theorem noise_writeReg_phase (n : Nat) (d : Byte) (c : Noise) : (c.writeReg n d).timerPhase = c.timerPhase := by
  unfold Noise.writeReg; split <;> rfl

theorem dmc_writeReg_phase (n : Nat) (d : Byte) (c : Dmc) :
    (c.writeReg n d).timerPhase = c.timerPhase ∧ (c.writeReg n d).bitsLeft = c.bitsLeft := by
  unfold Dmc.writeReg; split <;> exact ⟨rfl, rfl⟩

namespace Apu

theorem writeChannelReg_ok {a : Apu} (h : a.Ok) (n : Nat) (d : Byte) : (a.writeChannelReg n d).Ok := by
  unfold writeChannelReg
  split
  · exact ⟨by simpa only [pulse_writeReg_phase] using h.1, h.2, h.3, h.4, h.5, h.6, h.7⟩
  split
  · exact ⟨h.1, by simpa only [pulse_writeReg_phase] using h.2, h.3, h.4, h.5, h.6, h.7⟩
  split
  · exact ⟨h.1, h.2, by simpa only [triangle_writeReg_phase] using h.3, h.4, h.5, h.6, h.7⟩
  split
  · exact ⟨h.1, h.2, h.3, by simpa only [noise_writeReg_phase] using h.4, h.5, h.6, h.7⟩
  · exact ⟨h.1, h.2, h.3, h.4, by simpa only [(dmc_writeReg_phase _ _ _).1] using h.5,
      by simpa only [(dmc_writeReg_phase _ _ _).2] using h.6, h.7⟩

theorem writeEnables_ok {a : Apu} (h : a.Ok) (d : Byte) : (a.writeEnables d).Ok :=
  ⟨h.1, h.2, h.3, h.4, h.5, h.6, h.7⟩

theorem writeSequencer_ok {a : Apu} (h : a.Ok) (d : Byte) : (a.writeSequencer d).Ok :=
  ⟨h.1, h.2, h.3, h.4, h.5, h.6, Nat.zero_le _⟩

theorem powerOn_ok : Apu.powerOn.Ok := by
  have h : phaseOk 0 := by constructor <;> decide
  exact ⟨h, h, h, h, h, by decide, by decide⟩

end Apu

theorem dmcTake_phase (b : Byte) (c : Dmc) :
    (dmcTake b c).1.timerPhase = c.timerPhase ∧ (dmcTake b c).1.bitsLeft = c.bitsLeft := by
  unfold dmcTake
  dsimp only
  repeat' split
  all_goals exact ⟨rfl, rfl⟩

/-! ## The bus table -/

namespace BusMap

theorem windowsOk_mapRange {b : Bool} {m : List BusRange} (hw : WindowsOk b m) {dev : Device} {s e : Nat} (hs : 0x8000 ≤ s)
    (h : s ≤ e) : WindowsOk b (mapRange dev s e m) := by
  intro a ha
  rw [lookup_mapRange h, if_neg (by omega)]
  exact hw a ha

/-- R415, R423: two 16 KiB windows installed over a table that has the fixed windows make a good table. -/
theorem mapPrg_ok {c : Cart} {m : List BusRange} (hp : partition m = true) (hw : WindowsOk c.battery m) {lo hi : Nat}
    (hlo : lo < c.prgBanks) (hhi : hi < c.prgBanks) :
    Ok c (mapRange (prgBank hi) 0xC000 0xFFFF (mapRange (prgBank lo) 0x8000 0xBFFF m)) := by
  refine ⟨?_, ?_, lo, hi, hlo, hhi, ?_, ?_⟩
  · exact partition_mapRange (partition_mapRange hp (by omega) (by omega)) (by omega) (by omega)
  · exact windowsOk_mapRange (windowsOk_mapRange hw (by omega) (by omega)) (by omega) (by omega)
  · intro a h1 h2
    rw [lookup_mapRange (by omega), if_neg (by omega), lookup_mapRange (by omega), if_pos ⟨h1, h2⟩]
    rfl
  · intro a h1 h2
    rw [lookup_mapRange (by omega), if_pos ⟨h1, h2⟩]
    rfl

theorem fixedWindows_partition (b : Bool) : partition (fixedWindows b) = true := by cases b <;> decide

end BusMap

/-! ## The whole state -/

/-- The invariant without the two PRG windows, which a mapper's `init` installs. -/
structure State.PreInv (s : State) : Prop where
  flags : flagsOk s.p = true
  cart : s.cart.Ok
  partition : BusMap.partition s.busMap = true
  windows : BusMap.WindowsOk s.cart.battery s.busMap
  wram : Memory.wf 2048 s.wram = true
  saveRam : Memory.wf 8192 s.saveRam = true
  mmcCount : s.mapper.mmcCount < 5
  ppu : s.ppu.Ok
  apu : s.apu.Ok
  orch : s.orch.Ok

theorem State.Inv.pre {s : State} (h : s.Inv) : s.PreInv :=
  ⟨h.1, h.2, h.3.1, h.3.2, h.4, h.5, h.6, h.7, h.8, h.9⟩

theorem mapPrg_inv {s : State} (h : s.PreInv) {lo hi : Nat} (hlo : lo < s.cart.prgBanks) (hhi : hi < s.cart.prgBanks) :
    (mapPrg lo hi s).Inv :=
  ⟨h.1, h.2, BusMap.mapPrg_ok h.3 h.4 hlo hhi, h.5, h.6, h.7, h.8, h.9, h.10⟩

theorem pushChr_inv {s : State} (h : s.Inv) (a base n : Nat) : (pushChr a base n s).Inv :=
  ⟨h.1, h.2, h.3, h.4, h.5, h.6, Ppu.writeBlock_ok h.7 _ _ _, h.8, h.9⟩

theorem setMirroring_inv {s : State} (h : s.Inv) (m : Mirroring) : (setMirroring m s).Inv :=
  ⟨h.1, h.2, h.3, h.4, h.5, h.6, ⟨h.7.1, h.7.2, h.7.3, h.7.4, h.7.5, h.7.6⟩, h.8, h.9⟩

theorem mmcPrgBanks_lt {s : State} (h : 0 < s.cart.prgBanks) :
    (mmcPrgBanks s).1 < s.cart.prgBanks ∧ (mmcPrgBanks s).2 < s.cart.prgBanks := by
  unfold mmcPrgBanks
  dsimp only
  split
  · exact ⟨h, Nat.mod_lt _ h⟩
  · exact ⟨Nat.mod_lt _ h, by dsimp only; omega⟩
  · exact ⟨Nat.mod_lt _ h, Nat.mod_lt _ h⟩

theorem applyPrg_inv {s : State} (h : s.PreInv) : (applyPrg s).Inv :=
  mapPrg_inv h (mmcPrgBanks_lt h.cart.prgBanks).1 (mmcPrgBanks_lt h.cart.prgBanks).2

theorem applyChr_inv {s : State} (h : s.Inv) : (applyChr s).Inv := by
  unfold applyChr
  split
  · exact h
  · exact pushChr_inv (pushChr_inv h _ _ _) _ _ _

theorem applyMirroring_inv {s : State} (h : s.Inv) : (applyMirroring s).Inv := by
  unfold applyMirroring
  split
  · exact h
  · exact setMirroring_inv h _

/-- R421: a write to a mapper register keeps the invariant. -/
theorem mapperWrite_inv {s : State} (h : s.Inv) (a : Addr) (d : Byte) : (mapperWrite a d s).Inv := by
  have hm : ∀ m : Mapper, m.mmcCount < 5 → ({ s with mapper := m } : State).Inv :=
    fun m hm => ⟨h.1, h.2, h.3, h.4, h.5, hm, h.7, h.8, h.9⟩
  unfold mapperWrite
  split
  · unfold mmcWrite
    split
    · exact applyPrg_inv (hm _ (Nat.zero_lt_succ 4)).pre
    · dsimp only
      split
      · unfold mmcLoad
        split
        · exact applyChr_inv (applyPrg_inv (applyMirroring_inv (hm _ (Nat.zero_lt_succ 4))).pre)
        · exact applyChr_inv (hm _ (Nat.zero_lt_succ 4))
        · exact applyChr_inv (hm _ (Nat.zero_lt_succ 4))
        · exact applyPrg_inv (hm _ (Nat.zero_lt_succ 4)).pre
      · exact hm _ (by have := h.mmcCount; dsimp only; omega)
  · exact h

theorem memRead_inv {s : State} (h : s.Inv) (a : Addr) : (memRead a s).2.Inv := by
  unfold memRead deviceRead
  dsimp only
  split
  · exact h
  · exact ⟨h.1, h.2, h.3, h.4, h.5, h.6, (Ppu.readPort_memories _ _).ok h.7, h.8, h.9⟩
  · unfold apuRead
    repeat' split
    · exact ⟨h.1, h.2, h.3, h.4, h.5, h.6, h.7, ⟨h.8.1, h.8.2, h.8.3, h.8.4, h.8.5, h.8.6, h.8.7⟩, h.9⟩
    · exact ⟨h.1, h.2, h.3, h.4, h.5, h.6, h.7, h.8, h.9⟩
    · exact ⟨h.1, h.2, h.3, h.4, h.5, h.6, h.7, h.8, h.9⟩
    · exact h
  · exact h
  · exact h
  · exact h

theorem request_inv {s : State} (h : s.Inv) (k : Tag) : (request k s).Inv :=
  ⟨h.1, h.2, h.3, h.4, h.5, h.6, h.7, h.8, h.9⟩

theorem addCycles_inv {s : State} (h : s.Inv) (n : Nat) : (addCycles n s).Inv :=
  ⟨h.1, h.2, h.3, h.4, h.5, h.6, h.7, h.8, h.9⟩

theorem setDmc_inv {s : State} (h : s.Inv) {c : Dmc} (h1 : phaseOk c.timerPhase) (h2 : c.bitsLeft.toNat ≤ 8) :
    ({ s with apu := { s.apu with dmc := c } } : State).Inv :=
  ⟨h.1, h.2, h.3, h.4, h.5, h.6, h.7, ⟨h.8.1, h.8.2, h.8.3, h.8.4, h1, h2, h.8.7⟩, h.9⟩

theorem dmcRefill_inv {s : State} (h : s.Inv) : (dmcRefill s).Inv := by
  unfold dmcRefill
  dsimp only
  split
  · have hr := memRead_inv h s.apu.dmc.curAddr
    have hd := dmcTake_phase (memRead s.apu.dmc.curAddr s).1 (memRead s.apu.dmc.curAddr s).2.apu.dmc
    have h1 := setDmc_inv hr (c := (dmcTake (memRead s.apu.dmc.curAddr s).1 (memRead s.apu.dmc.curAddr s).2.apu.dmc).1)
      (hd.1 ▸ hr.apu.dmc) (hd.2 ▸ hr.apu.bitsLeft)
    split
    · exact request_inv h1 _
    · exact h1
  · exact h

theorem dmcStart_inv {s : State} (h : s.Inv) (d : Byte) : (dmcStart d s).Inv := by
  unfold dmcStart
  split
  · exact dmcRefill_inv (setDmc_inv h h.apu.dmc h.apu.bitsLeft)
  · exact h

theorem oamDma_inv {s : State} (h : s.Inv) (d : Byte) : (oamDma d s).Inv := by
  refine addCycles_inv (foldl_keeps _ State.Inv (fun t i ht => ?_) _ s h) _
  have hr := memRead_inv ht (BitVec.ofNat 16 (256 * d.toNat + i))
  exact ⟨hr.1, hr.2, hr.3, hr.4, hr.5, hr.6,
    ⟨hr.7.1, hr.7.2, hr.7.3, Memory.wf_write hr.7.4 (Nat.mod_lt _ (by decide)) _, hr.7.5, hr.7.6⟩, hr.8, hr.9⟩

theorem apuWrite_inv {s : State} (h : s.Inv) (n : Nat) (d : Byte) : (apuWrite n d s).Inv := by
  have ha : ∀ a : Apu, a.Ok → ({ s with apu := a } : State).Inv :=
    fun a ha => ⟨h.1, h.2, h.3, h.4, h.5, h.6, h.7, ha, h.9⟩
  unfold apuWrite
  split
  · exact ha _ (Apu.writeChannelReg_ok h.8 n d)
  split
  · exact oamDma_inv h d
  split
  · exact dmcStart_inv (ha _ (Apu.writeEnables_ok h.8 d)) d
  split
  · exact ⟨h.1, h.2, h.3, h.4, h.5, h.6, h.7, h.8, h.9⟩
  split
  · exact ha _ (Apu.writeSequencer_ok h.8 d)
  · exact h

theorem memWrite_inv {s : State} (h : s.Inv) (a : Addr) (d : Byte) : (memWrite a d s).Inv := by
  unfold memWrite deviceWrite
  dsimp only
  split
  · exact ⟨h.1, h.2, h.3, Memory.wf_write h.4 (Nat.mod_lt _ (by decide)) d, h.5, h.6, h.7, h.8, h.9⟩
  · exact ⟨h.1, h.2, h.3, h.4, h.5, h.6, Ppu.writePort_ok h.7 _ _ d, h.8, h.9⟩
  · exact apuWrite_inv h _ d
  · exact h
  · exact ⟨h.1, h.2, h.3, h.4, Memory.wf_write h.5 (Nat.mod_lt _ (by decide)) d, h.6, h.7, h.8, h.9⟩
  · exact mapperWrite_inv h a d

/-- The invariant is kept by every primitive operation of an instruction. -/
theorem inv_closed : Closed State.Inv where
  setA _ _ h := ⟨h.1, h.2, h.3, h.4, h.5, h.6, h.7, h.8, h.9⟩
  setX _ _ h := ⟨h.1, h.2, h.3, h.4, h.5, h.6, h.7, h.8, h.9⟩
  setY _ _ h := ⟨h.1, h.2, h.3, h.4, h.5, h.6, h.7, h.8, h.9⟩
  setSp _ _ h := ⟨h.1, h.2, h.3, h.4, h.5, h.6, h.7, h.8, h.9⟩
  setPc _ _ h := ⟨h.1, h.2, h.3, h.4, h.5, h.6, h.7, h.8, h.9⟩
  setP s q hq h := by
    refine ⟨?_, h.2, h.3, h.4, h.5, h.6, h.7, h.8, h.9⟩
    have hf := h.flags
    unfold flagsOk at hf ⊢
    rcases hq with ⟨h4, h5⟩ | ⟨h4, h5⟩
    · rw [h4, h5]; exact hf
    · rw [h4, h5]; rfl
  setPending _ _ h := ⟨h.1, h.2, h.3, h.4, h.5, h.6, h.7, h.8, h.9⟩
  setCyc _ _ h := ⟨h.1, h.2, h.3, h.4, h.5, h.6, h.7, h.8, h.9⟩
  memRead _ a h := memRead_inv h a
  memWrite _ a d h := memWrite_inv h a d
  markUnknown _ _ h := ⟨h.1, h.2, h.3, h.4, h.5, h.6, h.7, h.8, h.9⟩

/-! ## The device windows of a state that has the invariant -/

/-- R73, R75: what the bus does with an access to the PPU's window. -/
theorem lookup_ppuPorts {s : State} (h : s.Inv) {a : Nat} (h1 : 0x2000 ≤ a) (h2 : a < 0x4000) :
    BusMap.lookup s.busMap a = (.ppuPorts, a - 0x2000) := by
  rw [h.bus.windows a (by omega)]
  have : ¬ a ≤ 0x1FFF := by omega
  have : a ≤ 0x3FFF := by omega
  simp [BusMap.fixedWindows, BusMap.lookup, BusMap.holds, *]

/-- R73, R76: the same for the APU and I/O window. -/
theorem lookup_apuIo {s : State} (h : s.Inv) {a : Nat} (h1 : 0x4000 ≤ a) (h2 : a < 0x4020) :
    BusMap.lookup s.busMap a = (.apuIo, a - 0x4000) := by
  rw [h.bus.windows a (by omega)]
  have : ¬ a ≤ 0x1FFF := by omega
  have : ¬ a ≤ 0x3FFF := by omega
  have : a ≤ 0x401F := by omega
  simp [BusMap.fixedWindows, BusMap.lookup, BusMap.holds, *]

theorem memRead_ppuPorts {s : State} (h : s.Inv) {a : Addr} (h1 : 0x2000 ≤ a.toNat) (h2 : a.toNat < 0x4000) :
    memRead a s = ((s.ppu.readPort (a.toNat % 8)).1, { s with ppu := (s.ppu.readPort (a.toNat % 8)).2 }) := by
  have hm : (a.toNat - 0x2000) % 8 = a.toNat % 8 := by omega
  simp only [memRead, lookup_ppuPorts h h1 h2, deviceRead, hm]

theorem memWrite_ppuPorts {s : State} (h : s.Inv) {a : Addr} (h1 : 0x2000 ≤ a.toNat) (h2 : a.toNat < 0x4000) (d : Byte) :
    memWrite a d s = { s with ppu := s.ppu.writePort (decide (0 < s.cart.chrBanks)) (a.toNat % 8) d } := by
  have hm : (a.toNat - 0x2000) % 8 = a.toNat % 8 := by omega
  simp only [memWrite, lookup_ppuPorts h h1 h2, deviceWrite, hm]

theorem memRead_apuIo {s : State} (h : s.Inv) {a : Addr} (h1 : 0x4000 ≤ a.toNat) (h2 : a.toNat < 0x4020) :
    memRead a s = apuRead (a.toNat - 0x4000) s := by
  simp only [memRead, lookup_apuIo h h1 h2, deviceRead]

theorem memWrite_apuIo {s : State} (h : s.Inv) {a : Addr} (h1 : 0x4000 ≤ a.toNat) (h2 : a.toNat < 0x4020) (d : Byte) :
    memWrite a d s = apuWrite (a.toNat - 0x4000) d s := by
  simp only [memWrite, lookup_apuIo h h1 h2, deviceWrite]

end Sys2Proof.Machine
end

