-- ==== Sys2Proof/Laws/Step.lean ====
section
/-! SUPPORT. A property kept by the primitive operations is kept by the interrupt check, the instruction fetch and the CPU's step. -/

namespace Sys2Proof.Machine.Closed

variable {P : State → Prop} (hP : Closed P) {s : State}

include hP

theorem doReset (h : P s) : P (doReset s) := by
  have h1 := hP.memRead16 0xFFFC (hP.resetRegisters h)
  have h2 := hP.setPc _ (Machine.memRead16 0xFFFC (Machine.resetRegisters s)).1 h1
  unfold Machine.doReset
  dsimp only
  exact h2

/-- R254: the interrupt check keeps the property, whatever is pending. -/
theorem servicePending (h : P s) : P (servicePending s) := by
  have hr := hP.doReset h
  unfold Machine.servicePending
  split
  · exact h
  · exact hP.addCycles _ _ hr
  · exact hP.service _ h
  · split
    · exact h
    · exact hP.service _ h
  · split
    · exact h
    · exact hP.service _ h

theorem fetchInstr (h : P s) : P (fetchInstr s).2 := by
  unfold Machine.fetchInstr
  dsimp only
  split
  · exact hP.fetch8 (hP.fetch8 h)
  · exact hP.fetch8 (hP.fetch8 (hP.fetch8 h))
  · exact hP.fetch8 h

/-- R132: the CPU's step completes and keeps the property. -/
theorem cpuStep (h : P s) : ∃ t, cpuStep s = .next t ∧ P t := hP.exec _ (hP.fetchInstr h)

end Sys2Proof.Machine.Closed
end

