-- ==== Sys2Proof/Laws/Orchestrator.lean ====
section
/-! SUPPORT. What the audio step, initialisation and the orchestrator's moves keep of the invariant of Safety.lean. -/

namespace Sys2Proof.Machine

theorem dmcReload_inv {s : State} (h : s.Inv) : (dmcReload s).Inv := by
  unfold dmcReload
  dsimp only
  repeat' split
  · refine dmcRefill_inv (setDmc_inv h h.apu.dmc ?_)
    show (8#4).toNat ≤ 8; decide
  · refine setDmc_inv h h.apu.dmc ?_
    show (8#4).toNat ≤ 8; decide
  · exact h

theorem dmcReload_pos {s : State} : (dmcReload s).apu.dmc.bitsLeft ≠ 0 := by
  have hr : ∀ t : State, (dmcRefill t).apu.dmc.bitsLeft = t.apu.dmc.bitsLeft := by
    intro t
    unfold dmcRefill
    dsimp only
    split
    · have h := (dmcTake_phase (memRead t.apu.dmc.curAddr t).1 (memRead t.apu.dmc.curAddr t).2.apu.dmc).2
      split
      · exact h.trans (by rw [memRead_dmc])
      · exact h.trans (by rw [memRead_dmc])
    · rfl
  unfold dmcReload
  dsimp only
  split
  · split
    · rw [hr]
      show (8#4) ≠ 0; decide
    · show (8#4) ≠ 0; decide
  · assumption

theorem dmcTick_inv {s : State} (h : s.Inv) : (dmcTick s).Inv := by
  have h1 := dmcReload_inv h
  have h2 := @dmcReload_pos s
  unfold dmcTick
  dsimp only
  refine setDmc_inv h1 ?_ ?_
  · unfold Dmc.shiftOut
    dsimp only
    repeat' split
    all_goals exact h1.apu.dmc
  · have : (Dmc.shiftOut (dmcReload s).apu.dmc).bitsLeft = (dmcReload s).apu.dmc.bitsLeft - 1 := by
      unfold Dmc.shiftOut
      dsimp only
      repeat' split
      all_goals rfl
    rw [this]
    have h3 := h1.apu.bitsLeft
    have h4 : (dmcReload s).apu.dmc.bitsLeft.toNat ≠ 0 := fun e => h2 (BitVec.eq_of_toNat_eq e)
    generalize (dmcReload s).apu.dmc.bitsLeft = b at *
    rw [BitVec.toNat_sub]
    have := b.isLt
    simp; omega

theorem dmcOutput_inv {s : State} (h : s.Inv) (n : Nat) {clocks : Rat} (hc : 0 ≤ clocks) : (dmcOutput n clocks s).2.Inv := by
  refine sampleLoop_keeps _ _ State.Inv (fun t ht => ?_) n s h
  unfold dmcAdvance
  refine iterate_keeps _ State.Inv (fun _ hu => dmcTick_inv hu) _ _ ?_
  exact setDmc_inv ht (advancePhase_ok hc _ ht.apu.dmc) ht.apu.bitsLeft

theorem sequencerAdvance_inv {s : State} (h : s.Inv) : (sequencerAdvance s).Inv := by
  have h8 := h.8
  have ha : ∀ (i : Nat) (f : Bool), i ≤ (if s.apu.seqMode then 4 else 3) →
      ({ s with apu := { s.apu with seqIndex := i, frameIrq := f } } : State).Inv :=
    fun i f hi => ⟨h.1, h.2, h.3, h.4, h.5, h.6, h.7, ⟨h8.1, h8.2, h8.3, h8.4, h8.5, h8.6, hi⟩, h.9⟩
  have h7 := h8.7
  unfold sequencerAdvance
  dsimp only
  generalize (if s.apu.seqMode = true then 4 else 3) = last at ha h7
  split
  · split
    · exact request_inv (ha 0 true (Nat.zero_le _)) _
    · exact ha 0 s.apu.frameIrq (Nat.zero_le _)
  · exact ha _ s.apu.frameIrq (by omega)

theorem stepFrame_inv {s : State} (h : s.Inv) : (stepFrame s).Inv := by
  have hc := clocksPerSample_nonneg
  unfold stepFrame
  generalize Config.clocksPerSample = clocks at hc
  generalize Config.samplesPerSlice = n
  unfold stepFrameWith
  dsimp only
  generalize sequencerClocks s.apu.seqMode s.apu.seqIndex = c
  have h1 : ({ s with apu := { s.apu with pulse1 := (pulseOutput n clocks true c.2 c.1 s.apu.pulse1).2, pulse2 := (pulseOutput n clocks false c.2 c.1 s.apu.pulse2).2, triangle := (triangleOutput n clocks c.2 c.1 s.apu.triangle).2, noise := (noiseOutput n clocks c.2 c.1 s.apu.noise).2 } } : State).Inv :=
    ⟨h.1, h.2, h.3, h.4, h.5, h.6, h.7, ⟨pulseOutput_ok hc _ _ _ _ _ h.8.1, pulseOutput_ok hc _ _ _ _ _ h.8.2, triangleOutput_ok hc _ _ _ _ h.8.3, noiseOutput_ok hc _ _ _ _ h.8.4, h.8.5, h.8.6, h.8.7⟩, h.9⟩
  have h2 := dmcOutput_inv h1 n hc
  exact sequencerAdvance_inv ⟨h2.1, h2.2, h2.3, h2.4, h2.5, h2.6, h2.7, ⟨h2.8.1, h2.8.2, h2.8.3, h2.8.4, h2.8.5, h2.8.6, h2.8.7⟩, h2.9⟩


theorem loadSave_inv {s : State} (h : s.PreInv) : (loadSave s).PreInv := by
  have hs : ∀ m, Memory.wf 8192 m = true → ({ s with saveRam := m } : State).PreInv := fun m hm => ⟨h.1, h.2, h.3, h.4, h.5, hm, h.7, h.8, h.9, h.10⟩
  unfold loadSave
  split
  · split
    · exact hs _ (Sparse.wf_ofList (by simp))
    · have := hs [] rfl
      exact ⟨this.1, this.2, this.3, this.4, this.5, this.6, this.7, this.8, this.9, this.10⟩
  · exact h

theorem powerOn_pre {s : State} (h : s.Inv) : (powerOnState s).PreInv :=
  ⟨h.1, h.2, BusMap.fixedWindows_partition _, fun _ _ => rfl, rfl, rfl, Nat.zero_lt_succ 4, ⟨rfl, rfl, rfl, rfl, rfl, rfl⟩, Apu.powerOn_ok, ⟨Nat.zero_lt_succ 261, Nat.zero_le 4⟩⟩

theorem mapperInit_inv {s : State} (h : s.PreInv) (k : InitKind) (p : Option (List Byte)) : (mapperInit k p s).Inv := by
  unfold mapperInit
  split
  · unfold mmcInit
    dsimp only
    refine applyChr_inv (applyPrg_inv ?_)
    exact ⟨h.1, h.2, h.3, h.4, h.5, h.6, by simp [setMirroring], ⟨h.8.1, h.8.2, h.8.3, h.8.4, h.8.5, h.8.6⟩, h.9, h.10⟩
  · unfold nromInit
    dsimp only
    have h1 : (mapPrg 0 (s.cart.prgBanks - 1) s).Inv := mapPrg_inv h h.cart.prgBanks (by have := h.cart.prgBanks; omega)
    refine setMirroring_inv ?_ _
    split
    · exact pushChr_inv h1 _ _ _
    · exact h1

theorem initCore_inv {s : State} (h : s.Inv) (k : InitKind) : (initCore k s).Inv := by
  have h1 : ∀ u : State, u.PreInv → ∀ p, (doReset (mapperInit k p u)).Inv := fun u hu p => inv_closed.doReset (mapperInit_inv hu k p)
  unfold initCore
  dsimp only
  have h2 := h1 _ (loadSave_inv (powerOn_pre h))
  have h3 := h1 _ h.pre
  cases k with
  | power =>
    have := h2 (loadSave (powerOnState s)).orch.param
    exact ⟨this.1, this.2, this.3, this.4, this.5, this.6, this.7, this.8, ⟨this.9.1, this.9.2⟩⟩
  | reset =>
    have := h3 s.orch.param
    exact ⟨this.1, this.2, this.3, this.4, this.5, this.6, this.7, this.8, ⟨this.9.1, this.9.2⟩⟩

theorem startFrame_inv {s : State} (h : s.Inv) (b : Bool) (p q : Option Byte) : (startFrame b p q s).Inv := by
  have h1 : (initIfNeeded s).Inv := by
    unfold initIfNeeded
    split
    · exact initCore_inv h _
    · exact h
  unfold startFrame
  exact ⟨h1.1, h1.2, h1.3, h1.4, h1.5, h1.6, h1.7, ⟨h1.8.1, h1.8.2, h1.8.3, h1.8.4, h1.8.5, h1.8.6, h1.8.7⟩, ⟨by show (0:Nat) < 262; decide, h1.9.2⟩⟩

theorem startFrame_orch {s : State} (b : Bool) (p q : Option Byte) : (startFrame b p q s).orch.skipRun ≤ s.orch.skipRun := by
  have hm : ∀ u : State, ∀ k p, (mapperInit k p u).orch = u.orch := by
    intro u k p
    unfold mapperInit mmcInit nromInit applyChr applyPrg mapPrg setMirroring pushChr
    dsimp only
    repeat' split
    all_goals rfl
  have hd : ∀ u : State, (doReset u).orch = u.orch := by
    intro u; simp [doReset]
  have h1 : (initIfNeeded s).orch.skipRun ≤ s.orch.skipRun := by
    unfold initIfNeeded initCore
    split
    · dsimp only
      rw [hd, hm]
      split
      · have : (loadSave (powerOnState s)).orch.skipRun = 0 := by
          unfold loadSave
          repeat' split
          all_goals rfl
        omega
      · exact Nat.le_refl _
    · exact Nat.le_refl _
  exact h1

theorem idleStep_inv {s : State} (h : s.Inv) : (idleStep s).Inv := by
  unfold idleStep
  split
  · exact h
  · dsimp only
    rename_i r rest _
    have h0 : ({ s with io := { s.io with inbox := rest } } : State).Inv := ⟨h.1, h.2, h.3, h.4, h.5, h.6, h.7, h.8, h.9⟩
    split
    · exact ⟨h.1, h.2, h.3, h.4, h.5, h.6, h.7, h.8, h.9⟩
    · unfold handleRequest
      split
      · exact startFrame_inv h0 _ _ _
      · split
        · exact ⟨h.1, h.2, h.3, h.4, h.5, h.6, h.7, h.8, h.9⟩
        · rename_i pad1 pad2 _ hne
          have h1 := startFrame_inv h0 true pad1 pad2
          have h2 := startFrame_orch (s := { s with io := { s.io with inbox := rest } }) true pad1 pad2
          refine ⟨h1.1, h1.2, h1.3, h1.4, h1.5, h1.6, h1.7, h1.8, ⟨h1.9.1, ?_⟩⟩
          have h3 := h.9.2
          simp only [countSkip_orch, Config.skipCap] at *
          omega
      · exact ⟨h.1, h.2, h.3, h.4, h.5, h.6, h.7, h.8, ⟨h.9.1, h.9.2⟩⟩
      · dsimp only
        split
        · exact ⟨h.1, h.2, h.3, h.4, h.5, h.6, h.7, h.8, ⟨h.9.1, h.9.2⟩⟩
        · exact ⟨h.1, h.2, h.3, h.4, h.5, h.6, h.7, h.8, ⟨h.9.1, h.9.2⟩⟩
      · exact ⟨h.1, h.2, h.3, h.4, h.5, h.6, h.7, h.8, ⟨h.9.1, h.9.2⟩⟩
      · unfold storeResponse
        split
        · exact ⟨h.1, h.2, h.3, h.4, Sparse.wf_ofList (by simp), h.6, h.7, h.8, h.9⟩
        · exact ⟨h.1, h.2, h.3, h.4, h.5, h.6, h.7, h.8, h.9⟩

theorem lineTop_inv {s : State} (h : s.Inv) : (lineTop s).Inv := by
  have h1 : ∀ u : State, u.Inv → (preRender s.orch.line u).Inv := by
    intro u h
    unfold preRender
    dsimp only
    have : ({ u with ppu := u.ppu.preRender s.orch.line } : State).Inv := ⟨h.1, h.2, h.3, h.4, h.5, h.6, Ppu.preRender_ok h.7 _, h.8, h.9⟩
    split
    · exact request_inv this _
    · exact this
  have h2 : ∀ u : State, u.Inv → (renderLine s.orch.line u).Inv := by
    intro u h
    exact ⟨h.1, h.2, h.3, h.4, h.5, h.6, Ppu.renderLine_ok h.7 _ _, h.8, h.9⟩
  unfold lineTop
  simp only [hookVBlank, hookHBlank, hookPreScanLine, ite_self]
  have h3 := h2 _ (h1 _ h)
  exact ⟨h3.1, h3.2, h3.3, h3.4, h3.5, h3.6, h3.7, h3.8, ⟨h3.9.1, h3.9.2⟩⟩

theorem endFrame_inv {s : State} (h : s.Inv) : (endFrame s).Inv := by
  have hf : ∀ u : State, u.Inv → (endOfFrameFlush u).Inv := by
    intro u h
    unfold endOfFrameFlush
    have h1 : (flushCounters u).Inv := by
      unfold flushCounters
      repeat' split
      all_goals exact ⟨h.1, h.2, h.3, h.4, h.5, h.6, h.7, h.8, ⟨h.9.1, h.9.2⟩⟩
    dsimp only
    split
    · split
      · exact ⟨h1.1, h1.2, h1.3, h1.4, h1.5, h1.6, h1.7, h1.8, ⟨h1.9.1, h1.9.2⟩⟩
      · exact h1
    · exact h
  have h1 := hf { s with orch := { s.orch with line := 0 } } ⟨h.1, h.2, h.3, h.4, h.5, h.6, h.7, h.8, ⟨by show (0:Nat) < 262; decide, h.9.2⟩⟩
  unfold endFrame
  dsimp only
  refine ⟨h1.1, h1.2, h1.3, h1.4, h1.5, h1.6, h1.7, ⟨h1.8.1, h1.8.2, h1.8.3, h1.8.4, h1.8.5, h1.8.6, h1.8.7⟩, ⟨h1.9.1, ?_⟩⟩
  dsimp only
  split
  · exact h1.9.2
  · exact Nat.zero_le _

theorem lineEnd_inv {s : State} (h : s.Inv) : (lineEnd s).Inv := by
  have h0 : (spendBudget s).Inv := ⟨h.1, h.2, h.3, h.4, h.5, h.6, h.7, h.8, h.9⟩
  unfold lineEnd
  dsimp only
  have h1 : (if sequencerLines.contains s.orch.line = true then stepFrame (spendBudget s) else spendBudget s).Inv := by
    split
    · exact stepFrame_inv h0
    · exact h0
  split
  · exact ⟨h1.1, h1.2, h1.3, h1.4, h1.5, h1.6, h1.7, h1.8, ⟨by assumption, h1.9.2⟩⟩
  · exact endFrame_inv h1

end Sys2Proof.Machine
end

