-- ==== Sys2Proof/Laws/Boot.lean ====
section
/-! SUPPORT. `State.reset`, which is written out field by field, is the machine that construction makes from the blank cartridge; a
constructed machine has the invariant. -/

namespace Sys2Proof.Machine

/-- R481: reset is construction from the blank cartridge (log entry 2). -/
theorem reset_eq_construct : State.reset = construct Cart.blank := by rfl

/-- The memories of the reset state are in canonical form: they list nothing. -/
theorem reset_memories_wf :
    Memory.wf 2048 State.reset.wram = true ∧ Memory.wf 8192 State.reset.saveRam = true ∧
    Memory.wf 4096 State.reset.ppu.nt = true ∧ Memory.wf 256 State.reset.ppu.oam = true :=
  ⟨rfl, rfl, rfl, rfl⟩

theorem construct_pre {c : Cart} (h : c.Ok) : (powerOnState { State.reset with cart := c }).PreInv :=
  ⟨show flagsOk 0x24 = true from rfl, h, BusMap.fixedWindows_partition _, fun _ _ => rfl, rfl, rfl, Nat.zero_lt_succ 4, ⟨rfl, rfl, rfl, rfl, rfl, rfl⟩,
    Apu.powerOn_ok, ⟨Nat.zero_lt_succ 261, Nat.zero_le 4⟩⟩

theorem construct_inv {c : Cart} (h : c.Ok) : (construct c).Inv := by
  have h1 := inv_closed.doReset (mapperInit_inv (construct_pre h) .power none)
  unfold construct
  dsimp only
  exact ⟨h1.1, h1.2, h1.3, h1.4, h1.5, h1.6, h1.7, h1.8, ⟨h1.9.1, h1.9.2⟩⟩

end Sys2Proof.Machine
end

