-- ==== Sys2Proof/Laws/PerInstr.lean ====
section
/-! SUPPORT. The per-instruction family RoundTrip: decoding an instruction's bytes gives the instruction and what follows it. -/

namespace Sys2Proof.Laws.RoundTrip

/-- R110 to R112: whatever bytes follow, the decoder reads the instruction back from its encoding, with every operand bit. -/
def Statement (i : Instr) : Prop := ∀ rest : List Byte, decode (encode i ++ rest) = .ok (i, rest)

/-- The operand word is put together again from its two bytes. -/
theorem decode3 (op : Byte) (h : lengthOf op = 3) (a : Addr) (rest : List Byte) :
    decode (op :: Machine.loByte a :: Machine.hiByte a :: rest) = .ok (decodeOp op 0 a, rest) := by
  simp [decode, h]

theorem brk : Statement .brk := fun _ => rfl
theorem oraIzx (d : Byte) : Statement (.oraIzx d) := fun _ => rfl
theorem unknown02 : Statement .unknown02 := fun _ => rfl
theorem unknown03 : Statement .unknown03 := fun _ => rfl
theorem unknown04 : Statement .unknown04 := fun _ => rfl
theorem oraZp (d : Byte) : Statement (.oraZp d) := fun _ => rfl
theorem aslZp (d : Byte) : Statement (.aslZp d) := fun _ => rfl
theorem unknown07 : Statement .unknown07 := fun _ => rfl
theorem php : Statement .php := fun _ => rfl
theorem oraImm (d : Byte) : Statement (.oraImm d) := fun _ => rfl
theorem aslAcc : Statement .aslAcc := fun _ => rfl
theorem unknown0B : Statement .unknown0B := fun _ => rfl
theorem unknown0C : Statement .unknown0C := fun _ => rfl
theorem oraAbs (a : Addr) : Statement (.oraAbs a) := fun rest => decode3 0x0D rfl a rest
theorem aslAbs (a : Addr) : Statement (.aslAbs a) := fun rest => decode3 0x0E rfl a rest
theorem unknown0F : Statement .unknown0F := fun _ => rfl
theorem bplRel (d : Byte) : Statement (.bplRel d) := fun _ => rfl
theorem oraIzy (d : Byte) : Statement (.oraIzy d) := fun _ => rfl
theorem unknown12 : Statement .unknown12 := fun _ => rfl
theorem unknown13 : Statement .unknown13 := fun _ => rfl
theorem unknown14 : Statement .unknown14 := fun _ => rfl
theorem oraZpx (d : Byte) : Statement (.oraZpx d) := fun _ => rfl
theorem aslZpx (d : Byte) : Statement (.aslZpx d) := fun _ => rfl
theorem unknown17 : Statement .unknown17 := fun _ => rfl
theorem clc : Statement .clc := fun _ => rfl
theorem oraAby (a : Addr) : Statement (.oraAby a) := fun rest => decode3 0x19 rfl a rest
theorem unknown1A : Statement .unknown1A := fun _ => rfl
theorem unknown1B : Statement .unknown1B := fun _ => rfl
theorem unknown1C : Statement .unknown1C := fun _ => rfl
theorem oraAbx (a : Addr) : Statement (.oraAbx a) := fun rest => decode3 0x1D rfl a rest
theorem aslAbx (a : Addr) : Statement (.aslAbx a) := fun rest => decode3 0x1E rfl a rest
theorem unknown1F : Statement .unknown1F := fun _ => rfl
theorem jsrAbs (a : Addr) : Statement (.jsrAbs a) := fun rest => decode3 0x20 rfl a rest
theorem andIzx (d : Byte) : Statement (.andIzx d) := fun _ => rfl
theorem unknown22 : Statement .unknown22 := fun _ => rfl
theorem unknown23 : Statement .unknown23 := fun _ => rfl
theorem bitZp (d : Byte) : Statement (.bitZp d) := fun _ => rfl
theorem andZp (d : Byte) : Statement (.andZp d) := fun _ => rfl
theorem rolZp (d : Byte) : Statement (.rolZp d) := fun _ => rfl
theorem unknown27 : Statement .unknown27 := fun _ => rfl
theorem plp : Statement .plp := fun _ => rfl
theorem andImm (d : Byte) : Statement (.andImm d) := fun _ => rfl
theorem rolAcc : Statement .rolAcc := fun _ => rfl
theorem unknown2B : Statement .unknown2B := fun _ => rfl
theorem bitAbs (a : Addr) : Statement (.bitAbs a) := fun rest => decode3 0x2C rfl a rest
theorem andAbs (a : Addr) : Statement (.andAbs a) := fun rest => decode3 0x2D rfl a rest
theorem rolAbs (a : Addr) : Statement (.rolAbs a) := fun rest => decode3 0x2E rfl a rest
theorem unknown2F : Statement .unknown2F := fun _ => rfl
theorem bmiRel (d : Byte) : Statement (.bmiRel d) := fun _ => rfl
theorem andIzy (d : Byte) : Statement (.andIzy d) := fun _ => rfl
theorem unknown32 : Statement .unknown32 := fun _ => rfl
theorem unknown33 : Statement .unknown33 := fun _ => rfl
theorem unknown34 : Statement .unknown34 := fun _ => rfl
theorem andZpx (d : Byte) : Statement (.andZpx d) := fun _ => rfl
theorem rolZpx (d : Byte) : Statement (.rolZpx d) := fun _ => rfl
theorem unknown37 : Statement .unknown37 := fun _ => rfl
theorem sec : Statement .sec := fun _ => rfl
theorem andAby (a : Addr) : Statement (.andAby a) := fun rest => decode3 0x39 rfl a rest
theorem unknown3A : Statement .unknown3A := fun _ => rfl
theorem unknown3B : Statement .unknown3B := fun _ => rfl
theorem unknown3C : Statement .unknown3C := fun _ => rfl
theorem andAbx (a : Addr) : Statement (.andAbx a) := fun rest => decode3 0x3D rfl a rest
theorem rolAbx (a : Addr) : Statement (.rolAbx a) := fun rest => decode3 0x3E rfl a rest
theorem unknown3F : Statement .unknown3F := fun _ => rfl
theorem rti : Statement .rti := fun _ => rfl
theorem eorIzx (d : Byte) : Statement (.eorIzx d) := fun _ => rfl
theorem unknown42 : Statement .unknown42 := fun _ => rfl
theorem unknown43 : Statement .unknown43 := fun _ => rfl
theorem unknown44 : Statement .unknown44 := fun _ => rfl
theorem eorZp (d : Byte) : Statement (.eorZp d) := fun _ => rfl
theorem lsrZp (d : Byte) : Statement (.lsrZp d) := fun _ => rfl
theorem unknown47 : Statement .unknown47 := fun _ => rfl
theorem pha : Statement .pha := fun _ => rfl
theorem eorImm (d : Byte) : Statement (.eorImm d) := fun _ => rfl
theorem lsrAcc : Statement .lsrAcc := fun _ => rfl
theorem unknown4B : Statement .unknown4B := fun _ => rfl
theorem jmpAbs (a : Addr) : Statement (.jmpAbs a) := fun rest => decode3 0x4C rfl a rest
theorem eorAbs (a : Addr) : Statement (.eorAbs a) := fun rest => decode3 0x4D rfl a rest
theorem lsrAbs (a : Addr) : Statement (.lsrAbs a) := fun rest => decode3 0x4E rfl a rest
theorem unknown4F : Statement .unknown4F := fun _ => rfl
theorem bvcRel (d : Byte) : Statement (.bvcRel d) := fun _ => rfl
theorem eorIzy (d : Byte) : Statement (.eorIzy d) := fun _ => rfl
theorem unknown52 : Statement .unknown52 := fun _ => rfl
theorem unknown53 : Statement .unknown53 := fun _ => rfl
theorem unknown54 : Statement .unknown54 := fun _ => rfl
theorem eorZpx (d : Byte) : Statement (.eorZpx d) := fun _ => rfl
theorem lsrZpx (d : Byte) : Statement (.lsrZpx d) := fun _ => rfl
theorem unknown57 : Statement .unknown57 := fun _ => rfl
theorem cli : Statement .cli := fun _ => rfl
theorem eorAby (a : Addr) : Statement (.eorAby a) := fun rest => decode3 0x59 rfl a rest
theorem unknown5A : Statement .unknown5A := fun _ => rfl
theorem unknown5B : Statement .unknown5B := fun _ => rfl
theorem unknown5C : Statement .unknown5C := fun _ => rfl
theorem eorAbx (a : Addr) : Statement (.eorAbx a) := fun rest => decode3 0x5D rfl a rest
theorem lsrAbx (a : Addr) : Statement (.lsrAbx a) := fun rest => decode3 0x5E rfl a rest
theorem unknown5F : Statement .unknown5F := fun _ => rfl
theorem rts : Statement .rts := fun _ => rfl
theorem adcIzx (d : Byte) : Statement (.adcIzx d) := fun _ => rfl
theorem unknown62 : Statement .unknown62 := fun _ => rfl
theorem unknown63 : Statement .unknown63 := fun _ => rfl
theorem unknown64 : Statement .unknown64 := fun _ => rfl
theorem adcZp (d : Byte) : Statement (.adcZp d) := fun _ => rfl
theorem rorZp (d : Byte) : Statement (.rorZp d) := fun _ => rfl
theorem unknown67 : Statement .unknown67 := fun _ => rfl
theorem pla : Statement .pla := fun _ => rfl
theorem adcImm (d : Byte) : Statement (.adcImm d) := fun _ => rfl
theorem rorAcc : Statement .rorAcc := fun _ => rfl
theorem unknown6B : Statement .unknown6B := fun _ => rfl
theorem jmpInd (a : Addr) : Statement (.jmpInd a) := fun rest => decode3 0x6C rfl a rest
theorem adcAbs (a : Addr) : Statement (.adcAbs a) := fun rest => decode3 0x6D rfl a rest
theorem rorAbs (a : Addr) : Statement (.rorAbs a) := fun rest => decode3 0x6E rfl a rest
theorem unknown6F : Statement .unknown6F := fun _ => rfl
theorem bvsRel (d : Byte) : Statement (.bvsRel d) := fun _ => rfl
theorem adcIzy (d : Byte) : Statement (.adcIzy d) := fun _ => rfl
theorem unknown72 : Statement .unknown72 := fun _ => rfl
theorem unknown73 : Statement .unknown73 := fun _ => rfl
theorem unknown74 : Statement .unknown74 := fun _ => rfl
theorem adcZpx (d : Byte) : Statement (.adcZpx d) := fun _ => rfl
theorem rorZpx (d : Byte) : Statement (.rorZpx d) := fun _ => rfl
theorem unknown77 : Statement .unknown77 := fun _ => rfl
theorem sei : Statement .sei := fun _ => rfl
theorem adcAby (a : Addr) : Statement (.adcAby a) := fun rest => decode3 0x79 rfl a rest
theorem unknown7A : Statement .unknown7A := fun _ => rfl
theorem unknown7B : Statement .unknown7B := fun _ => rfl
theorem unknown7C : Statement .unknown7C := fun _ => rfl
theorem adcAbx (a : Addr) : Statement (.adcAbx a) := fun rest => decode3 0x7D rfl a rest
theorem rorAbx (a : Addr) : Statement (.rorAbx a) := fun rest => decode3 0x7E rfl a rest
theorem unknown7F : Statement .unknown7F := fun _ => rfl
theorem unknown80 : Statement .unknown80 := fun _ => rfl
theorem staIzx (d : Byte) : Statement (.staIzx d) := fun _ => rfl
theorem unknown82 : Statement .unknown82 := fun _ => rfl
theorem unknown83 : Statement .unknown83 := fun _ => rfl
theorem styZp (d : Byte) : Statement (.styZp d) := fun _ => rfl
theorem staZp (d : Byte) : Statement (.staZp d) := fun _ => rfl
theorem stxZp (d : Byte) : Statement (.stxZp d) := fun _ => rfl
theorem unknown87 : Statement .unknown87 := fun _ => rfl
theorem dey : Statement .dey := fun _ => rfl
theorem unknown89 : Statement .unknown89 := fun _ => rfl
theorem txa : Statement .txa := fun _ => rfl
theorem unknown8B : Statement .unknown8B := fun _ => rfl
theorem styAbs (a : Addr) : Statement (.styAbs a) := fun rest => decode3 0x8C rfl a rest
theorem staAbs (a : Addr) : Statement (.staAbs a) := fun rest => decode3 0x8D rfl a rest
theorem stxAbs (a : Addr) : Statement (.stxAbs a) := fun rest => decode3 0x8E rfl a rest
theorem unknown8F : Statement .unknown8F := fun _ => rfl
theorem bccRel (d : Byte) : Statement (.bccRel d) := fun _ => rfl
theorem staIzy (d : Byte) : Statement (.staIzy d) := fun _ => rfl
theorem unknown92 : Statement .unknown92 := fun _ => rfl
theorem unknown93 : Statement .unknown93 := fun _ => rfl
theorem styZpx (d : Byte) : Statement (.styZpx d) := fun _ => rfl
theorem staZpx (d : Byte) : Statement (.staZpx d) := fun _ => rfl
theorem stxZpy (d : Byte) : Statement (.stxZpy d) := fun _ => rfl
theorem unknown97 : Statement .unknown97 := fun _ => rfl
theorem tya : Statement .tya := fun _ => rfl
theorem staAby (a : Addr) : Statement (.staAby a) := fun rest => decode3 0x99 rfl a rest
theorem txs : Statement .txs := fun _ => rfl
theorem unknown9B : Statement .unknown9B := fun _ => rfl
theorem unknown9C : Statement .unknown9C := fun _ => rfl
theorem staAbx (a : Addr) : Statement (.staAbx a) := fun rest => decode3 0x9D rfl a rest
theorem unknown9E : Statement .unknown9E := fun _ => rfl
theorem unknown9F : Statement .unknown9F := fun _ => rfl
theorem ldyImm (d : Byte) : Statement (.ldyImm d) := fun _ => rfl
theorem ldaIzx (d : Byte) : Statement (.ldaIzx d) := fun _ => rfl
theorem ldxImm (d : Byte) : Statement (.ldxImm d) := fun _ => rfl
theorem unknownA3 : Statement .unknownA3 := fun _ => rfl
theorem ldyZp (d : Byte) : Statement (.ldyZp d) := fun _ => rfl
theorem ldaZp (d : Byte) : Statement (.ldaZp d) := fun _ => rfl
theorem ldxZp (d : Byte) : Statement (.ldxZp d) := fun _ => rfl
theorem unknownA7 : Statement .unknownA7 := fun _ => rfl
theorem tay : Statement .tay := fun _ => rfl
theorem ldaImm (d : Byte) : Statement (.ldaImm d) := fun _ => rfl
theorem tax : Statement .tax := fun _ => rfl
theorem unknownAB : Statement .unknownAB := fun _ => rfl
theorem ldyAbs (a : Addr) : Statement (.ldyAbs a) := fun rest => decode3 0xAC rfl a rest
theorem ldaAbs (a : Addr) : Statement (.ldaAbs a) := fun rest => decode3 0xAD rfl a rest
theorem ldxAbs (a : Addr) : Statement (.ldxAbs a) := fun rest => decode3 0xAE rfl a rest
theorem unknownAF : Statement .unknownAF := fun _ => rfl
theorem bcsRel (d : Byte) : Statement (.bcsRel d) := fun _ => rfl
theorem ldaIzy (d : Byte) : Statement (.ldaIzy d) := fun _ => rfl
theorem unknownB2 : Statement .unknownB2 := fun _ => rfl
theorem unknownB3 : Statement .unknownB3 := fun _ => rfl
theorem ldyZpx (d : Byte) : Statement (.ldyZpx d) := fun _ => rfl
theorem ldaZpx (d : Byte) : Statement (.ldaZpx d) := fun _ => rfl
theorem ldxZpy (d : Byte) : Statement (.ldxZpy d) := fun _ => rfl
theorem unknownB7 : Statement .unknownB7 := fun _ => rfl
theorem clv : Statement .clv := fun _ => rfl
theorem ldaAby (a : Addr) : Statement (.ldaAby a) := fun rest => decode3 0xB9 rfl a rest
theorem tsx : Statement .tsx := fun _ => rfl
theorem unknownBB : Statement .unknownBB := fun _ => rfl
theorem ldyAbx (a : Addr) : Statement (.ldyAbx a) := fun rest => decode3 0xBC rfl a rest
theorem ldaAbx (a : Addr) : Statement (.ldaAbx a) := fun rest => decode3 0xBD rfl a rest
theorem ldxAby (a : Addr) : Statement (.ldxAby a) := fun rest => decode3 0xBE rfl a rest
theorem unknownBF : Statement .unknownBF := fun _ => rfl
theorem cpyImm (d : Byte) : Statement (.cpyImm d) := fun _ => rfl
theorem cmpIzx (d : Byte) : Statement (.cmpIzx d) := fun _ => rfl
theorem unknownC2 : Statement .unknownC2 := fun _ => rfl
theorem unknownC3 : Statement .unknownC3 := fun _ => rfl
theorem cpyZp (d : Byte) : Statement (.cpyZp d) := fun _ => rfl
theorem cmpZp (d : Byte) : Statement (.cmpZp d) := fun _ => rfl
theorem decZp (d : Byte) : Statement (.decZp d) := fun _ => rfl
theorem unknownC7 : Statement .unknownC7 := fun _ => rfl
theorem iny : Statement .iny := fun _ => rfl
theorem cmpImm (d : Byte) : Statement (.cmpImm d) := fun _ => rfl
theorem dex : Statement .dex := fun _ => rfl
theorem unknownCB : Statement .unknownCB := fun _ => rfl
theorem cpyAbs (a : Addr) : Statement (.cpyAbs a) := fun rest => decode3 0xCC rfl a rest
theorem cmpAbs (a : Addr) : Statement (.cmpAbs a) := fun rest => decode3 0xCD rfl a rest
theorem decAbs (a : Addr) : Statement (.decAbs a) := fun rest => decode3 0xCE rfl a rest
theorem unknownCF : Statement .unknownCF := fun _ => rfl
theorem bneRel (d : Byte) : Statement (.bneRel d) := fun _ => rfl
theorem cmpIzy (d : Byte) : Statement (.cmpIzy d) := fun _ => rfl
theorem unknownD2 : Statement .unknownD2 := fun _ => rfl
theorem unknownD3 : Statement .unknownD3 := fun _ => rfl
theorem unknownD4 : Statement .unknownD4 := fun _ => rfl
theorem cmpZpx (d : Byte) : Statement (.cmpZpx d) := fun _ => rfl
theorem decZpx (d : Byte) : Statement (.decZpx d) := fun _ => rfl
theorem unknownD7 : Statement .unknownD7 := fun _ => rfl
theorem cld : Statement .cld := fun _ => rfl
theorem cmpAby (a : Addr) : Statement (.cmpAby a) := fun rest => decode3 0xD9 rfl a rest
theorem unknownDA : Statement .unknownDA := fun _ => rfl
theorem unknownDB : Statement .unknownDB := fun _ => rfl
theorem unknownDC : Statement .unknownDC := fun _ => rfl
theorem cmpAbx (a : Addr) : Statement (.cmpAbx a) := fun rest => decode3 0xDD rfl a rest
theorem decAbx (a : Addr) : Statement (.decAbx a) := fun rest => decode3 0xDE rfl a rest
theorem unknownDF : Statement .unknownDF := fun _ => rfl
theorem cpxImm (d : Byte) : Statement (.cpxImm d) := fun _ => rfl
theorem sbcIzx (d : Byte) : Statement (.sbcIzx d) := fun _ => rfl
theorem unknownE2 : Statement .unknownE2 := fun _ => rfl
theorem unknownE3 : Statement .unknownE3 := fun _ => rfl
theorem cpxZp (d : Byte) : Statement (.cpxZp d) := fun _ => rfl
theorem sbcZp (d : Byte) : Statement (.sbcZp d) := fun _ => rfl
theorem incZp (d : Byte) : Statement (.incZp d) := fun _ => rfl
theorem unknownE7 : Statement .unknownE7 := fun _ => rfl
theorem inx : Statement .inx := fun _ => rfl
theorem sbcImm (d : Byte) : Statement (.sbcImm d) := fun _ => rfl
theorem nop : Statement .nop := fun _ => rfl
theorem unknownEB : Statement .unknownEB := fun _ => rfl
theorem cpxAbs (a : Addr) : Statement (.cpxAbs a) := fun rest => decode3 0xEC rfl a rest
theorem sbcAbs (a : Addr) : Statement (.sbcAbs a) := fun rest => decode3 0xED rfl a rest
theorem incAbs (a : Addr) : Statement (.incAbs a) := fun rest => decode3 0xEE rfl a rest
theorem unknownEF : Statement .unknownEF := fun _ => rfl
theorem beqRel (d : Byte) : Statement (.beqRel d) := fun _ => rfl
theorem sbcIzy (d : Byte) : Statement (.sbcIzy d) := fun _ => rfl
theorem unknownF2 : Statement .unknownF2 := fun _ => rfl
theorem unknownF3 : Statement .unknownF3 := fun _ => rfl
theorem unknownF4 : Statement .unknownF4 := fun _ => rfl
theorem sbcZpx (d : Byte) : Statement (.sbcZpx d) := fun _ => rfl
theorem incZpx (d : Byte) : Statement (.incZpx d) := fun _ => rfl
theorem unknownF7 : Statement .unknownF7 := fun _ => rfl
theorem sed : Statement .sed := fun _ => rfl
theorem sbcAby (a : Addr) : Statement (.sbcAby a) := fun rest => decode3 0xF9 rfl a rest
theorem unknownFA : Statement .unknownFA := fun _ => rfl
theorem unknownFB : Statement .unknownFB := fun _ => rfl
theorem unknownFC : Statement .unknownFC := fun _ => rfl
theorem sbcAbx (a : Addr) : Statement (.sbcAbx a) := fun rest => decode3 0xFD rfl a rest
theorem incAbx (a : Addr) : Statement (.incAbx a) := fun rest => decode3 0xFE rfl a rest
theorem unknownFF : Statement .unknownFF := fun _ => rfl

end Sys2Proof.Laws.RoundTrip
end

