-- ==== Sys2Proof/Tests/Slice0.lean ====
section
/-! SUPPORT. Tests. Expected results come from the spec: the opcode map R126 with the formats R111, the examples of the instruction rules,
and the rules named at each test. The last part gives, for each obligation with hypotheses, a state and operands that meet them. -/

namespace Sys2Proof.Tests

open Machine Spec

/-! ## Well-formedness: each ill-formed byte string is refused, and the decoder says why -/

theorem test_no_bytes_refused : wellFormedBytes [] = false ∧ decode [] = .error .empty := by decide
theorem test_missing_byte_refused : wellFormedBytes [0xA9] = false ∧ wellFormedBytes [0xAD, 0x00] = false := by decide
theorem test_surplus_byte_refused : wellFormedBytes [0xEA, 0x00] = false ∧ wellFormedBytes [0xA9, 0x01, 0x02] = false := by decide
theorem test_exact_bytes_accepted :
    wellFormedBytes [0xEA] = true ∧ wellFormedBytes [0xA9, 0x01] = true ∧ wellFormedBytes [0xAD, 0x00, 0x02] = true := by decide
theorem test_truncated_word_refused : decodeTableWord 8 0xA9 = some (.ldaImm 0) ∧ (decode [0xAD, 0x00]).toOption = none := by decide

/-! ## Decoding: every opcode byte of the map R126, operands 0x34 and 0x1234 -/

/-- Do the words of this row of the map decode to these instructions? -/
def decodes (row : List (Nat × Nat × Instr)) : Bool := row.all (fun r => decide (decodeTableWord r.1 r.2.1 = some r.2.2))

theorem test_decode_row_0 : decodes
    [(8, 0x00, .brk), (16, 0x3401, .oraIzx 0x34), (8, 0x02, .unknown02), (8, 0x03, .unknown03),
     (8, 0x04, .unknown04), (16, 0x3405, .oraZp 0x34), (16, 0x3406, .aslZp 0x34), (8, 0x07, .unknown07),
     (8, 0x08, .php), (16, 0x3409, .oraImm 0x34), (8, 0x0A, .aslAcc), (8, 0x0B, .unknown0B),
     (8, 0x0C, .unknown0C), (24, 0x12340D, .oraAbs 0x1234), (24, 0x12340E, .aslAbs 0x1234), (8, 0x0F, .unknown0F)] = true := by decide
theorem test_decode_row_1 : decodes
    [(16, 0x3410, .bplRel 0x34), (16, 0x3411, .oraIzy 0x34), (8, 0x12, .unknown12), (8, 0x13, .unknown13),
     (8, 0x14, .unknown14), (16, 0x3415, .oraZpx 0x34), (16, 0x3416, .aslZpx 0x34), (8, 0x17, .unknown17),
     (8, 0x18, .clc), (24, 0x123419, .oraAby 0x1234), (8, 0x1A, .unknown1A), (8, 0x1B, .unknown1B),
     (8, 0x1C, .unknown1C), (24, 0x12341D, .oraAbx 0x1234), (24, 0x12341E, .aslAbx 0x1234), (8, 0x1F, .unknown1F)] = true := by decide
theorem test_decode_row_2 : decodes
    [(24, 0x123420, .jsrAbs 0x1234), (16, 0x3421, .andIzx 0x34), (8, 0x22, .unknown22), (8, 0x23, .unknown23),
     (16, 0x3424, .bitZp 0x34), (16, 0x3425, .andZp 0x34), (16, 0x3426, .rolZp 0x34), (8, 0x27, .unknown27),
     (8, 0x28, .plp), (16, 0x3429, .andImm 0x34), (8, 0x2A, .rolAcc), (8, 0x2B, .unknown2B),
     (24, 0x12342C, .bitAbs 0x1234), (24, 0x12342D, .andAbs 0x1234), (24, 0x12342E, .rolAbs 0x1234), (8, 0x2F, .unknown2F)] = true := by decide
theorem test_decode_row_3 : decodes
    [(16, 0x3430, .bmiRel 0x34), (16, 0x3431, .andIzy 0x34), (8, 0x32, .unknown32), (8, 0x33, .unknown33),
     (8, 0x34, .unknown34), (16, 0x3435, .andZpx 0x34), (16, 0x3436, .rolZpx 0x34), (8, 0x37, .unknown37),
     (8, 0x38, .sec), (24, 0x123439, .andAby 0x1234), (8, 0x3A, .unknown3A), (8, 0x3B, .unknown3B),
     (8, 0x3C, .unknown3C), (24, 0x12343D, .andAbx 0x1234), (24, 0x12343E, .rolAbx 0x1234), (8, 0x3F, .unknown3F)] = true := by decide
theorem test_decode_row_4 : decodes
    [(8, 0x40, .rti), (16, 0x3441, .eorIzx 0x34), (8, 0x42, .unknown42), (8, 0x43, .unknown43),
     (8, 0x44, .unknown44), (16, 0x3445, .eorZp 0x34), (16, 0x3446, .lsrZp 0x34), (8, 0x47, .unknown47),
     (8, 0x48, .pha), (16, 0x3449, .eorImm 0x34), (8, 0x4A, .lsrAcc), (8, 0x4B, .unknown4B),
     (24, 0x12344C, .jmpAbs 0x1234), (24, 0x12344D, .eorAbs 0x1234), (24, 0x12344E, .lsrAbs 0x1234), (8, 0x4F, .unknown4F)] = true := by decide
theorem test_decode_row_5 : decodes
    [(16, 0x3450, .bvcRel 0x34), (16, 0x3451, .eorIzy 0x34), (8, 0x52, .unknown52), (8, 0x53, .unknown53),
     (8, 0x54, .unknown54), (16, 0x3455, .eorZpx 0x34), (16, 0x3456, .lsrZpx 0x34), (8, 0x57, .unknown57),
     (8, 0x58, .cli), (24, 0x123459, .eorAby 0x1234), (8, 0x5A, .unknown5A), (8, 0x5B, .unknown5B),
     (8, 0x5C, .unknown5C), (24, 0x12345D, .eorAbx 0x1234), (24, 0x12345E, .lsrAbx 0x1234), (8, 0x5F, .unknown5F)] = true := by decide
theorem test_decode_row_6 : decodes
    [(8, 0x60, .rts), (16, 0x3461, .adcIzx 0x34), (8, 0x62, .unknown62), (8, 0x63, .unknown63),
     (8, 0x64, .unknown64), (16, 0x3465, .adcZp 0x34), (16, 0x3466, .rorZp 0x34), (8, 0x67, .unknown67),
     (8, 0x68, .pla), (16, 0x3469, .adcImm 0x34), (8, 0x6A, .rorAcc), (8, 0x6B, .unknown6B),
     (24, 0x12346C, .jmpInd 0x1234), (24, 0x12346D, .adcAbs 0x1234), (24, 0x12346E, .rorAbs 0x1234), (8, 0x6F, .unknown6F)] = true := by decide
theorem test_decode_row_7 : decodes
    [(16, 0x3470, .bvsRel 0x34), (16, 0x3471, .adcIzy 0x34), (8, 0x72, .unknown72), (8, 0x73, .unknown73),
     (8, 0x74, .unknown74), (16, 0x3475, .adcZpx 0x34), (16, 0x3476, .rorZpx 0x34), (8, 0x77, .unknown77),
     (8, 0x78, .sei), (24, 0x123479, .adcAby 0x1234), (8, 0x7A, .unknown7A), (8, 0x7B, .unknown7B),
     (8, 0x7C, .unknown7C), (24, 0x12347D, .adcAbx 0x1234), (24, 0x12347E, .rorAbx 0x1234), (8, 0x7F, .unknown7F)] = true := by decide
theorem test_decode_row_8 : decodes
    [(8, 0x80, .unknown80), (16, 0x3481, .staIzx 0x34), (8, 0x82, .unknown82), (8, 0x83, .unknown83),
     (16, 0x3484, .styZp 0x34), (16, 0x3485, .staZp 0x34), (16, 0x3486, .stxZp 0x34), (8, 0x87, .unknown87),
     (8, 0x88, .dey), (8, 0x89, .unknown89), (8, 0x8A, .txa), (8, 0x8B, .unknown8B),
     (24, 0x12348C, .styAbs 0x1234), (24, 0x12348D, .staAbs 0x1234), (24, 0x12348E, .stxAbs 0x1234), (8, 0x8F, .unknown8F)] = true := by decide
theorem test_decode_row_9 : decodes
    [(16, 0x3490, .bccRel 0x34), (16, 0x3491, .staIzy 0x34), (8, 0x92, .unknown92), (8, 0x93, .unknown93),
     (16, 0x3494, .styZpx 0x34), (16, 0x3495, .staZpx 0x34), (16, 0x3496, .stxZpy 0x34), (8, 0x97, .unknown97),
     (8, 0x98, .tya), (24, 0x123499, .staAby 0x1234), (8, 0x9A, .txs), (8, 0x9B, .unknown9B),
     (8, 0x9C, .unknown9C), (24, 0x12349D, .staAbx 0x1234), (8, 0x9E, .unknown9E), (8, 0x9F, .unknown9F)] = true := by decide
theorem test_decode_row_A : decodes
    [(16, 0x34A0, .ldyImm 0x34), (16, 0x34A1, .ldaIzx 0x34), (16, 0x34A2, .ldxImm 0x34), (8, 0xA3, .unknownA3),
     (16, 0x34A4, .ldyZp 0x34), (16, 0x34A5, .ldaZp 0x34), (16, 0x34A6, .ldxZp 0x34), (8, 0xA7, .unknownA7),
     (8, 0xA8, .tay), (16, 0x34A9, .ldaImm 0x34), (8, 0xAA, .tax), (8, 0xAB, .unknownAB),
     (24, 0x1234AC, .ldyAbs 0x1234), (24, 0x1234AD, .ldaAbs 0x1234), (24, 0x1234AE, .ldxAbs 0x1234), (8, 0xAF, .unknownAF)] = true := by decide
theorem test_decode_row_B : decodes
    [(16, 0x34B0, .bcsRel 0x34), (16, 0x34B1, .ldaIzy 0x34), (8, 0xB2, .unknownB2), (8, 0xB3, .unknownB3),
     (16, 0x34B4, .ldyZpx 0x34), (16, 0x34B5, .ldaZpx 0x34), (16, 0x34B6, .ldxZpy 0x34), (8, 0xB7, .unknownB7),
     (8, 0xB8, .clv), (24, 0x1234B9, .ldaAby 0x1234), (8, 0xBA, .tsx), (8, 0xBB, .unknownBB),
     (24, 0x1234BC, .ldyAbx 0x1234), (24, 0x1234BD, .ldaAbx 0x1234), (24, 0x1234BE, .ldxAby 0x1234), (8, 0xBF, .unknownBF)] = true := by decide
theorem test_decode_row_C : decodes
    [(16, 0x34C0, .cpyImm 0x34), (16, 0x34C1, .cmpIzx 0x34), (8, 0xC2, .unknownC2), (8, 0xC3, .unknownC3),
     (16, 0x34C4, .cpyZp 0x34), (16, 0x34C5, .cmpZp 0x34), (16, 0x34C6, .decZp 0x34), (8, 0xC7, .unknownC7),
     (8, 0xC8, .iny), (16, 0x34C9, .cmpImm 0x34), (8, 0xCA, .dex), (8, 0xCB, .unknownCB),
     (24, 0x1234CC, .cpyAbs 0x1234), (24, 0x1234CD, .cmpAbs 0x1234), (24, 0x1234CE, .decAbs 0x1234), (8, 0xCF, .unknownCF)] = true := by decide
theorem test_decode_row_D : decodes
    [(16, 0x34D0, .bneRel 0x34), (16, 0x34D1, .cmpIzy 0x34), (8, 0xD2, .unknownD2), (8, 0xD3, .unknownD3),
     (8, 0xD4, .unknownD4), (16, 0x34D5, .cmpZpx 0x34), (16, 0x34D6, .decZpx 0x34), (8, 0xD7, .unknownD7),
     (8, 0xD8, .cld), (24, 0x1234D9, .cmpAby 0x1234), (8, 0xDA, .unknownDA), (8, 0xDB, .unknownDB),
     (8, 0xDC, .unknownDC), (24, 0x1234DD, .cmpAbx 0x1234), (24, 0x1234DE, .decAbx 0x1234), (8, 0xDF, .unknownDF)] = true := by decide
theorem test_decode_row_E : decodes
    [(16, 0x34E0, .cpxImm 0x34), (16, 0x34E1, .sbcIzx 0x34), (8, 0xE2, .unknownE2), (8, 0xE3, .unknownE3),
     (16, 0x34E4, .cpxZp 0x34), (16, 0x34E5, .sbcZp 0x34), (16, 0x34E6, .incZp 0x34), (8, 0xE7, .unknownE7),
     (8, 0xE8, .inx), (16, 0x34E9, .sbcImm 0x34), (8, 0xEA, .nop), (8, 0xEB, .unknownEB),
     (24, 0x1234EC, .cpxAbs 0x1234), (24, 0x1234ED, .sbcAbs 0x1234), (24, 0x1234EE, .incAbs 0x1234), (8, 0xEF, .unknownEF)] = true := by decide
theorem test_decode_row_F : decodes
    [(16, 0x34F0, .beqRel 0x34), (16, 0x34F1, .sbcIzy 0x34), (8, 0xF2, .unknownF2), (8, 0xF3, .unknownF3),
     (8, 0xF4, .unknownF4), (16, 0x34F5, .sbcZpx 0x34), (16, 0x34F6, .incZpx 0x34), (8, 0xF7, .unknownF7),
     (8, 0xF8, .sed), (24, 0x1234F9, .sbcAby 0x1234), (8, 0xFA, .unknownFA), (8, 0xFB, .unknownFB),
     (8, 0xFC, .unknownFC), (24, 0x1234FD, .sbcAbx 0x1234), (24, 0x1234FE, .incAbx 0x1234), (8, 0xFF, .unknownFF)] = true := by decide

/-! ## The examples of the instruction rules, each one step of the machine -/

/-- The machine after reset, inside `Execute` of line 0. -/
def ready : State := { State.reset with orch := { State.reset.orch with phase := .cpu } }

/-- Bytes put into memory from an address on. -/
def put (a : Nat) (bytes : List Byte) (s : State) : State :=
  (bytes.foldl (fun r b => (r.1 + 1, place (BitVec.ofNat 16 r.1) b r.2)) (a, s)).2

/-- `s` about to run the bytes at `a`. -/
def at_ (a : Nat) (bytes : List Byte) (s : State) : State := { put a bytes s with pc := BitVec.ofNat 16 a }

/-- Does one step lead to a state with this property? -/
def leads (s : State) (f : State → Bool) : Bool :=
  match step s with
  | .next t => f t
  | _ => false

theorem test_lda : leads (at_ 0x8000 [0xA9, 0x80] ready)
    (fun t => decide (t.a = 0x80 ∧ t.p = 0xA4 ∧ t.pc = 0x8002 ∧ t.cyc = 2)) = true := by decide
theorem test_ldx : leads (at_ 0x8000 [0xB6, 0x10] { ready with y := 0x05 })
    (fun t => decide (t.x = 0x00 ∧ t.p = 0x26 ∧ t.cyc = 4)) = true := by decide
theorem test_ldy : leads (at_ 0x8200 [0xBC, 0xFF, 0x80] (put 0x8100 [0x7F] { ready with x := 0x01 }))
    (fun t => decide (t.y = 0x7F ∧ t.p = 0x24 ∧ t.cyc = 5)) = true := by decide
theorem test_sta : leads (at_ 0x8000 [0x9D, 0xFF, 0x02] { ready with a := 0x3C, x := 0x02 })
    (fun t => decide (Memory.read t.wram 0x301 = 0x3C ∧ t.cyc = 5 ∧ t.p = 0x24)) = true := by decide
theorem test_stx : leads (at_ 0x8000 [0x96, 0xF0] { ready with x := 0xAA, y := 0x20 })
    (fun t => decide (Memory.read t.wram 0x10 = 0xAA ∧ t.cyc = 4)) = true := by decide
theorem test_sty : leads (at_ 0x8000 [0x8C, 0x00, 0x07] { ready with y := 0x01 })
    (fun t => decide (Memory.read t.wram 0x700 = 0x01 ∧ t.cyc = 4)) = true := by decide
theorem test_tax : leads (at_ 0x8000 [0xAA] { ready with x := 0x11 })
    (fun t => decide (t.x = 0x00 ∧ t.p = 0x26)) = true := by decide
theorem test_tay : leads (at_ 0x8000 [0xA8] { ready with a := 0xFF })
    (fun t => decide (t.y = 0xFF ∧ t.p = 0xA4)) = true := by decide
theorem test_txa : leads (at_ 0x8000 [0x8A] { ready with x := 0x40 })
    (fun t => decide (t.a = 0x40 ∧ t.p = 0x24)) = true := by decide
theorem test_tya : leads (at_ 0x8000 [0x98] { ready with y := 0x80 })
    (fun t => decide (t.a = 0x80 ∧ t.p = 0xA4)) = true := by decide
theorem test_tsx : leads (at_ 0x8000 [0xBA] ready)
    (fun t => decide (t.x = 0xFF ∧ t.p = 0xA4)) = true := by decide
theorem test_txs : leads (at_ 0x8000 [0x9A] ready)
    (fun t => decide (t.sp = 0x00 ∧ t.p = 0x24)) = true := by decide
theorem test_adc : leads (at_ 0x8000 [0x69, 0xF0] { ready with a := 0x10 })
    (fun t => decide (t.a = 0x00 ∧ t.p = 0x27)) = true := by decide
theorem test_adc_overflow : leads (at_ 0x8000 [0x69, 0x01] { ready with a := 0x7F })
    (fun t => decide (t.a = 0x80 ∧ t.p = 0xE4)) = true := by decide
theorem test_sbc : leads (at_ 0x8000 [0xE9, 0xF0] { ready with a := 0x50, p := 0x25 })
    (fun t => decide (t.a = 0x60 ∧ t.p = 0x24)) = true := by decide
theorem test_sbc_overflow : leads (at_ 0x8000 [0xE9, 0x01] { ready with a := 0x80, p := 0x25 })
    (fun t => decide (t.a = 0x7F ∧ t.p = 0x65)) = true := by decide
theorem test_and : leads (at_ 0x8000 [0x29, 0x0F] { ready with a := 0xF0 })
    (fun t => decide (t.a = 0x00 ∧ t.p = 0x26)) = true := by decide
theorem test_ora : leads (at_ 0x8000 [0x09, 0x80] { ready with a := 0x01 })
    (fun t => decide (t.a = 0x81 ∧ t.p = 0xA4)) = true := by decide
theorem test_eor : leads (at_ 0x8000 [0x49, 0xFF] { ready with a := 0xAA })
    (fun t => decide (t.a = 0x55 ∧ t.p = 0x24)) = true := by decide
theorem test_cmp : leads (at_ 0x8000 [0xC9, 0x20] { ready with a := 0x10 })
    (fun t => decide (t.a = 0x10 ∧ t.p = 0xA4)) = true := by decide
theorem test_cpx : leads (at_ 0x8000 [0xE0, 0x08] { ready with x := 0x08 })
    (fun t => decide (t.p = 0x27)) = true := by decide
theorem test_cpy : leads (at_ 0x8000 [0xC0, 0x01] { ready with y := 0xFF })
    (fun t => decide (t.p = 0xA5)) = true := by decide
theorem test_bit : leads (at_ 0x8000 [0x24, 0x10] (put 0x0010 [0xC0] { ready with a := 0x01 }))
    (fun t => decide (t.p = 0xE6 ∧ t.a = 0x01)) = true := by decide
theorem test_inc : leads (at_ 0x8000 [0xE6, 0x20] (put 0x0020 [0xFF] ready))
    (fun t => decide (Memory.read t.wram 0x20 = 0x00 ∧ t.p = 0x26 ∧ t.cyc = 5)) = true := by decide
theorem test_dec : leads (at_ 0x8000 [0xC6, 0x20] ready)
    (fun t => decide (Memory.read t.wram 0x20 = 0xFF ∧ t.p = 0xA4)) = true := by decide
theorem test_inx : leads (at_ 0x8000 [0xE8] { ready with x := 0xFF })
    (fun t => decide (t.x = 0x00 ∧ t.p = 0x26)) = true := by decide
theorem test_iny : leads (at_ 0x8000 [0xC8] { ready with y := 0x7F })
    (fun t => decide (t.y = 0x80 ∧ t.p = 0xA4)) = true := by decide
theorem test_dex : leads (at_ 0x8000 [0xCA] { ready with x := 0x01 })
    (fun t => decide (t.x = 0x00 ∧ t.p = 0x26)) = true := by decide
theorem test_dey : leads (at_ 0x8000 [0x88] ready)
    (fun t => decide (t.y = 0xFF ∧ t.p = 0xA4)) = true := by decide
theorem test_asl : leads (at_ 0x8000 [0x0A] { ready with a := 0x81 })
    (fun t => decide (t.a = 0x02 ∧ t.p = 0x25)) = true := by decide
theorem test_lsr : leads (at_ 0x8000 [0x4A] { ready with a := 0x01 })
    (fun t => decide (t.a = 0x00 ∧ t.p = 0x27)) = true := by decide
theorem test_rol : leads (at_ 0x8000 [0x26, 0x10] (put 0x0010 [0x40] { ready with p := 0x25 }))
    (fun t => decide (Memory.read t.wram 0x10 = 0x81 ∧ t.p = 0xA4)) = true := by decide
theorem test_ror : leads (at_ 0x8000 [0x6A] { ready with a := 0x01, p := 0x25 })
    (fun t => decide (t.a = 0x80 ∧ t.p = 0xA5)) = true := by decide
theorem test_jmp_indirect : leads (at_ 0x8000 [0x6C, 0xFF, 0x02] (put 0x02FF [0x34, 0x56] (put 0x0200 [0x12] ready)))
    (fun t => decide (t.pc = 0x1234 ∧ t.cyc = 5)) = true := by decide
theorem test_jsr : leads (at_ 0x8000 [0x20, 0x34, 0x12] ready)
    (fun t => decide (Memory.read t.wram 0x1FF = 0x80 ∧ Memory.read t.wram 0x1FE = 0x02 ∧ t.sp = 0xFD ∧ t.pc = 0x1234)) = true := by decide
theorem test_rts : leads (at_ 0x9000 [0x60] (put 0x01FE [0x02, 0x80] { ready with sp := 0xFD }))
    (fun t => decide (t.sp = 0xFF ∧ t.pc = 0x8003)) = true := by decide
theorem test_bcc : leads (at_ 0x8000 [0x90, 0x05] ready)
    (fun t => decide (t.pc = 0x8007 ∧ t.cyc = 3)) = true := by decide
theorem test_bcs : leads (at_ 0x8000 [0xB0, 0x05] ready)
    (fun t => decide (t.pc = 0x8002 ∧ t.cyc = 2)) = true := by decide
theorem test_beq : leads (at_ 0x80FD [0xF0, 0x02] { ready with p := 0x26 })
    (fun t => decide (t.pc = 0x8101 ∧ t.cyc = 4)) = true := by decide
theorem test_bne : leads (at_ 0x8005 [0xD0, 0xFB] ready)
    (fun t => decide (t.pc = 0x8002 ∧ t.cyc = 3)) = true := by decide
theorem test_bmi : leads (at_ 0x8000 [0x30, 0x7F] { ready with p := 0xA4 })
    (fun t => decide (t.pc = 0x8081 ∧ t.cyc = 3)) = true := by decide
theorem test_bpl : leads (at_ 0x8003 [0x10, 0xFB] ready)
    (fun t => decide (t.pc = 0x8000 ∧ t.cyc = 3)) = true := by decide
theorem test_bvc : leads (at_ 0x8000 [0x50, 0x80] ready)
    (fun t => decide (t.pc = 0x7F82 ∧ t.cyc = 4)) = true := by decide
theorem test_bvs : leads (at_ 0x8000 [0x70, 0x10] ready)
    (fun t => decide (t.pc = 0x8002 ∧ t.cyc = 2)) = true := by decide
theorem test_pha : leads (at_ 0x8000 [0x48] { ready with a := 0x42 })
    (fun t => decide (Memory.read t.wram 0x1FF = 0x42 ∧ t.sp = 0xFE)) = true := by decide
theorem test_pla : leads (at_ 0x8000 [0x68] { ready with a := 0x42, sp := 0xFE })
    (fun t => decide (t.a = 0x00 ∧ t.sp = 0xFF ∧ t.p = 0x26)) = true := by decide
theorem test_php : leads (at_ 0x8000 [0x08] ready)
    (fun t => decide (Memory.read t.wram 0x1FF = 0x34 ∧ t.sp = 0xFE ∧ t.p = 0x24)) = true := by decide
theorem test_plp : leads (at_ 0x8000 [0x28] (put 0x01FF [0xFF] { ready with sp := 0xFE }))
    (fun t => decide (t.p = 0xEF ∧ t.sp = 0xFF)) = true := by decide
theorem test_clc : leads (at_ 0x8000 [0x18] { ready with p := 0x25 })
    (fun t => decide (t.p = 0x24)) = true := by decide
theorem test_sec : leads (at_ 0x8000 [0x38] { ready with p := 0x24 })
    (fun t => decide (t.p = 0x25)) = true := by decide
theorem test_cli : leads (at_ 0x8000 [0x58] { ready with p := 0x24 })
    (fun t => decide (t.p = 0x20)) = true := by decide
theorem test_sei : leads (at_ 0x8000 [0x78] { ready with p := 0x20 })
    (fun t => decide (t.p = 0x24)) = true := by decide
theorem test_clv : leads (at_ 0x8000 [0xB8] { ready with p := 0x64 })
    (fun t => decide (t.p = 0x24)) = true := by decide
theorem test_cld : leads (at_ 0x8000 [0xD8] { ready with p := 0x2C })
    (fun t => decide (t.p = 0x24)) = true := by decide
theorem test_sed : leads (at_ 0x8000 [0xF8] { ready with p := 0x24 })
    (fun t => decide (t.p = 0x2C)) = true := by decide
theorem test_nop : leads (at_ 0x8000 [0xEA] ready)
    (fun t => decide (t.pc = 0x8001 ∧ t.cyc = 2 ∧ t.p = 0x24)) = true := by decide
theorem test_brk : leads (at_ 0x8000 [0x00, 0xEA] { ready with p := 0x20 })
    (fun t => decide (t.pc = 0x8002 ∧ t.pending = .brk ∧ t.sp = 0xFF)) = true := by decide
theorem test_brk_serviced : leads ({ at_ 0x9000 [0xEA] (put 0xFFFE [0x00, 0x90] ready) with p := 0x20, pc := 0x8002, pending := .brk })
    (fun t => decide (Memory.read t.wram 0x1FF = 0x80 ∧ Memory.read t.wram 0x1FE = 0x02 ∧ Memory.read t.wram 0x1FD = 0x30 ∧
      t.sp = 0xFC ∧ t.p = 0x24 ∧ t.pc = 0x9001 ∧ t.pending = .none ∧ t.cyc = 9)) = true := by decide
theorem test_brk_masked : leads ({ at_ 0x8002 [0xEA] ready with pending := .brk })
    (fun t => decide (t.pc = 0x8003 ∧ t.pending = .brk ∧ t.sp = 0xFF)) = true := by decide
theorem test_rti : leads (at_ 0x9000 [0x40] (put 0x01FD [0x30, 0x02, 0x80] { ready with sp := 0xFC }))
    (fun t => decide (t.p = 0x20 ∧ t.pc = 0x8002 ∧ t.sp = 0xFF)) = true := by decide
theorem test_unknown_opcode : leads (at_ 0x8000 [0x02] ready)
    (fun t => decide (t.pc = 0x8001 ∧ t.cyc = 2 ∧ t.sawUnknownOpcode = true ∧ t.io.log = [.unknownOpcode 0x02 0x8000])) = true := by decide
theorem test_budget_spent : leads ({ ready with cyc := 120, orch := { ready.orch with line := 1 } })
    (fun t => decide (t.cyc = 6 ∧ t.pc = ready.pc ∧ t.orch.line = 2)) = true := by decide

/-- Log entry 12: a word placed after reset is what the next step fetches. -/
theorem test_word_placed : leads (State.reset.withFetchWord 16 0x80A9) (fun t => decide (t.a = 0x80 ∧ t.p = 0xA4)) = true := by decide

/-! ## Devices -/

/-- R74: a byte written at 0x0800 is read at 0x1800. -/
theorem test_ram_mirror : peek (memWrite 0x0800 0x5A ready) 0x1800 = 0x5A := by decide

/-- R305: 0x7D then 0x5E to the scroll port. -/
theorem test_scroll_writes :
    (memWrite 0x2005 0x5E (memWrite 0x2005 0x7D ready)).ppu.t = BitVec.ofNat 15 (0x0F + 32 * 11 + 4096 * 6) ∧
    (memWrite 0x2005 0x7D ready).ppu.x = 5 ∧ (memWrite 0x2005 0x7D ready).ppu.w = true := by decide

/-- R302: a status read clears vblank and w. -/
theorem test_status_read : (memRead 0x2002 { ready with ppu := { ready.ppu with vblank := true, w := true } }).1 = 0x80 ∧
    (memRead 0x2002 { ready with ppu := { ready.ppu with vblank := true, w := true } }).2 = ready := by decide

/-- R317: the wraps of `v`. -/
theorem test_scroll_wraps : Ppu.incCoarseX 0x001F = 0x0400 ∧ Ppu.incFineY 0x73A0 = 0x0800 ∧ Ppu.incFineY 0x73E0 = 0x0000 := by decide

/-- R378: buttons 0x09 are read as 1, 0, 0, 1. -/
theorem test_pad_reads :
    (let s0 := memWrite 0x4016 0 (memWrite 0x4016 1 { ready with pads := { ready.pads with buttons1 := 0x09 } })
     let r1 := memRead 0x4016 s0
     let r2 := memRead 0x4016 r1.2
     let r3 := memRead 0x4016 r2.2
     [r1.1, r2.1, r3.1, (memRead 0x4016 r3.2).1] = [1, 0, 0, 1]) := by decide

/-- R411: why a load fails. -/
def loadError (image : List Byte) : Option LoadError :=
  match parseImage image with
  | .error e => some e
  | .ok _ => none

def header (b4 b6 : Byte) : List Byte := [0x4E, 0x45, 0x53, 0x1A, b4, 0, b6, 0, 0, 0, 0, 0, 0, 0, 0, 0]

theorem test_load_errors : loadError [] = some .badMagic ∧ loadError (header 1 0x20) = some (.badMapper 2) ∧
    loadError (header 0 0) = some .noPrg ∧ loadError (header 1 0) = some .shortFile := by decide

/-- R450, R454: a reset request only marks the machine; with no request the machine waits. -/
theorem test_requests :
    leads { State.reset with io := { State.reset.io with inbox := [.reset] } }
      (fun t => decide (t.orch.needInit = true ∧ t.orch.initKind = .reset ∧ t.io.inbox = [])) = true ∧
    leads State.reset (fun t => decide (t = State.reset)) = true := by decide

/-! ## Witnesses: states and operands that meet the hypotheses of the obligations -/

/-- A cartridge of mapper 1 with two PRG banks and a battery. -/
def cart1 : Cart := { Cart.blank with mapperId := 1, prgBanks := 2, battery := true }

theorem test_blank_ok : Cart.blank.Ok := ⟨by decide, by decide, by decide, by decide⟩
theorem test_cart1_ok : cart1.Ok := ⟨by decide, by decide, by decide, by decide⟩

/-- Two machines with the invariant, one of each mapper. -/
def m0 : State := construct Cart.blank
def m1 : State := construct cart1

theorem test_witness_inv : m0.Inv ∧ m1.Inv := ⟨construct_inv test_blank_ok, construct_inv test_cart1_ok⟩

/-- A machine with the invariant inside `Execute`. -/
def m0cpu : State := { m0 with orch := { m0.orch with phase := .cpu } }

theorem test_m0cpu_inv : m0cpu.Inv :=
  have h := test_witness_inv.1
  ⟨h.1, h.2, h.3, h.4, h.5, h.6, h.7, h.8, ⟨h.9.1, h.9.2⟩⟩

/-- StepRunsFetched: the first byte of the blank image is a BRK. -/
theorem test_witness_step_runs_fetched :
    m0cpu.orch.phase = .cpu ∧ m0cpu.cyc < 114 ∧ decode (fetched 1 (servicePending m0cpu)).1 = .ok (.brk, []) := by
  refine ⟨by decide, by decide, rfl⟩

/-- StepRunsDecoded. -/
theorem test_witness_step_runs_decoded :
    m0cpu.orch.phase = .cpu ∧ m0cpu.cyc < 114 ∧ interruptDue m0cpu = false ∧
    storable m0cpu m0cpu.pc = true ∧ storable m0cpu (m0cpu.pc + 1) = true ∧ storable m0cpu (m0cpu.pc + 2) = true ∧
    decode [peek m0cpu m0cpu.pc, peek m0cpu (m0cpu.pc + 1), peek m0cpu (m0cpu.pc + 2)] = .ok (.brk, [0, 0]) := by
  refine ⟨by decide, by decide, by decide, by decide, by decide, by decide, rfl⟩

/-- LineEndResult: each clause. -/
theorem test_witness_line_end :
    ∃ s t : State, s.orch.phase = .cpu ∧ 114 ≤ s.cyc ∧ s.orch.line < 261 ∧ t.orch.phase = .cpu ∧ 114 ≤ t.cyc ∧ t.orch.line = 261 :=
  ⟨{ m0cpu with cyc := 114 }, { m0cpu with cyc := 114, orch := { m0cpu.orch with line := 261 } }, by decide⟩

/-- StepKeepsInv, CycleCounterBound. -/
theorem test_witness_step_next : m0.Inv ∧ m0.cyc ≤ 640 ∧ step m0 = .next m0 := ⟨test_witness_inv.1, by decide, rfl⟩

/-- StickyMarkAndRom: a step that sets the mark, and one from a state where it is set. -/
theorem test_witness_sticky :
    leads (at_ 0x8000 [0x02] ready) (fun t => t.sawUnknownOpcode) = true ∧
    leads { ready with sawUnknownOpcode := true } (fun t => t.sawUnknownOpcode) = true := by decide

/-- InterruptCheck: every tag. -/
theorem test_witness_tags : ∀ k : Tag, ∃ s : State, s.pending = k := fun k => ⟨{ m0 with pending := k }, rfl⟩

/-- OperandReadFrame, StoreFrame: addresses of each device. -/
theorem test_witness_devices :
    plain m1 0x0000 ∧ plain m1 0x1FFF ∧ plain m1 0x4020 ∧ plain m1 0x6000 ∧ plain m1 0xFFFF ∧
    (BusMap.lookup m1.busMap 0x1FFF).1 = .wram ∧ (BusMap.lookup m1.busMap 0x7FFF).1 = .saveRam ∧
    (BusMap.lookup m1.busMap 0x4020).1 = .openDev ∧ (BusMap.lookup m0.busMap 0x8000).1 = .prg 0 ∧ m0.cart.mapperId = 0 := by
  refine ⟨⟨?_, ?_⟩, ⟨?_, ?_⟩, ⟨?_, ?_⟩, ⟨?_, ?_⟩, ⟨?_, ?_⟩, ?_⟩ <;> decide

/-- NonStoringFrame. -/
theorem test_witness_non_storing : stores .nop = false ∧ exec .nop m0 = .next (addCycles 2 m0) ∧ plain m0 0x8000 :=
  ⟨rfl, rfl, by decide, by decide⟩

/-- StoringFrame: a store, and JSR with both its stack bytes, beside a byte that is no mirror of theirs. -/
theorem test_witness_storing :
    ((Instr.staAbs 0x1FFF), [0x1FFF]) ∈ storeAddresses 0 0x1FFF m0 ∧ holdsData m0 0x1FFF ∧
    (Instr.jsrAbs 0x1FFF, [0x1FF, 0x1FE]) ∈ storeAddresses 0 0x1FFF m0 ∧ holdsData m0 0x1FF ∧ holdsData m0 0x1FE ∧
    (∃ t, exec (.staAbs 0x1FFF) m0 = .next t) ∧ plain m0 0x1000 ∧ cell m0 0x1000 ≠ cell m0 0x1FFF ∧
    cell m0 0x1000 ≠ cell m0 0x1FF ∧ cell m0 0x1000 ≠ cell m0 0x1FE := by
  refine ⟨by decide, .inl (by decide), by decide, .inl (by decide), .inl (by decide), ⟨_, rfl⟩, ⟨by decide, by decide⟩,
    by decide, by decide, by decide⟩

/-- RamWindows: the save window with a battery, and without. -/
theorem test_witness_windows : m1.cart.battery = true ∧ m0.cart.battery = false := by decide

/-- MemoriesEqualAsData. -/
theorem test_witness_memories : Memory.wf 16 [(3, 7)] = true ∧ ∀ a, Memory.read [(3, 7)] a = Memory.read [(3, 7)] a :=
  ⟨by decide, fun _ => rfl⟩

/-- Mmc1ResetWrite, Mmc1SerialLoad: the edges of the four address ranges. -/
theorem test_witness_serial :
    m1.Inv ∧ m1.cart.mapperId = 1 ∧ m1.mapper.mmcShift = 0 ∧ m1.mapper.mmcCount = 0 ∧ (0x80 : Byte).getLsbD 7 = true ∧
    (∀ a ∈ [0x8000, 0x9FFF, 0xA000, 0xDFFF, 0xFFFF], 0x8000 ≤ a ∧ a < 0x10000) ∧
    (∀ d ∈ [(0x7F : Byte), 0, 1, 0x7E, 0x7F], d.getLsbD 7 = false) ∧ m1.cart.defaultMirroring ≠ .fourScreen ∧
    [0x8000, 0x9FFF, 0xA000, 0xDFFF, 0xFFFF].map (fun a => a / 0x2000 % 4) = [0, 0, 1, 2, 3] :=
  ⟨test_witness_inv.2, by decide⟩

/-- BootVector: two banks. -/
theorem test_witness_boot : cart1.Ok ∧ cart1.prgBanks = 2 := ⟨test_cart1_ok, rfl⟩

/-- ImageParsed: an image of one PRG bank. -/
theorem test_one_bank_loads (tail : List Byte) (h : tail.length = 16384) : ∃ c, parseImage (header 1 0 ++ tail) = .ok c := by
  have hl : (header 1 0 ++ tail).length = 16400 := by simp [header, h]
  show ∃ c, parseBody (header 1 0 ++ tail) 1 0 0 0 = .ok c
  unfold parseBody
  rw [hl]
  exact ⟨_, rfl⟩

theorem test_witness_image : ∃ c, parseImage (header 1 0 ++ List.replicate 16384 0) = .ok c :=
  test_one_bank_loads _ List.length_replicate

/-- PortEffects, DataPort: the first and the last mirror of each port, `w` clear, and `v` on both sides of each limit. -/
theorem test_witness_ports :
    port 2 0x2002 ∧ port 2 0x3FFA ∧ port 6 0x2006 ∧ port 6 0x3FFE ∧ port 5 0x2005 ∧ port 5 0x3FFD ∧ port 7 0x2007 ∧ port 7 0x3FFF ∧
    m0.ppu.w = false ∧ (∀ v ∈ [(0x1FFF : BitVec 15), 0x2000, 0x3EFF, 0x3F00], ∃ s : State, s.Inv ∧ s.ppu.v = v) := by
  refine ⟨⟨by decide, by decide, by decide⟩, ⟨by decide, by decide, by decide⟩, ⟨by decide, by decide, by decide⟩,
    ⟨by decide, by decide, by decide⟩, ⟨by decide, by decide, by decide⟩, ⟨by decide, by decide, by decide⟩,
    ⟨by decide, by decide, by decide⟩, ⟨by decide, by decide, by decide⟩, by decide, fun v _ => ?_⟩
  have h := test_witness_inv.1
  exact ⟨{ m0 with ppu := { m0.ppu with v := v } }, ⟨h.1, h.2, h.3, h.4, h.5, h.6,
    ⟨h.7.1, h.7.2, h.7.3, h.7.4, h.7.5, h.7.6⟩, h.8, h.9⟩, rfl⟩

/-- PortEffects: the first and the last mirror of the other ports; and for each clause of a write to 0x4015 a DMC that it is about, the last
also with the one byte of its sample at the top of memory. -/
theorem test_witness_register_ports :
    (∀ n ∈ [0, 1, 2, 3, 4, 5, 6], port n (0x2000 + n) ∧ port n (0x3FF8 + n)) ∧
    ∀ r ∈ [((0 : BitVec 12), true, (1 : BitVec 12)), (1, false, 1), (0, false, 0), (0, false, 1), (0, false, 17)], ∃ s : State, s.Inv ∧
      (s.apu.dmc.bytesLeft, s.apu.dmc.bufferFull, s.apu.dmc.sampleLen) = r ∧ s.apu.dmc.sampleAddr = 0xFFFF := by
  refine ⟨fun n hn => ?_, fun r _ => ?_⟩
  · simp only [List.mem_cons, List.not_mem_nil, or_false] at hn
    unfold port
    omega
  · have h := test_witness_inv.1
    exact ⟨{ m0 with apu := { m0.apu with dmc := { m0.apu.dmc with bytesLeft := r.1, bufferFull := r.2.1, sampleLen := r.2.2,
                                                                   sampleAddr := 0xFFFF } } },
      ⟨h.1, h.2, h.3, h.4, h.5, h.6, h.7, ⟨h.8.1, h.8.2, h.8.3, h.8.4, h.8.5, h.8.6, h.8.7⟩, h.9⟩, rfl, rfl⟩

/-- VramMirrors: every mirroring mode. -/
theorem test_witness_mirrorings : ∀ m : Mirroring, ∃ p : Ppu, p.mirroring = m := fun m => ⟨{ m0.ppu with mirroring := m }, rfl⟩

/-- VramMirrors: addresses that share a place and that do not, in each mode (R293, R294), and one place that two modes show. -/
theorem test_witness_vram_places :
    vramCell .vertical 0x2000 = vramCell .vertical 0x2800 ∧ vramCell .vertical 0x2000 ≠ vramCell .vertical 0x2400 ∧
    vramCell .horizontal 0x2000 = vramCell .horizontal 0x2400 ∧ vramCell .horizontal 0x2000 ≠ vramCell .horizontal 0x2800 ∧
    vramCell .singleHigh 0x2FFF = vramCell .singleHigh 0x23FF ∧ vramCell .fourScreen 0x2000 ≠ vramCell .fourScreen 0x2C00 ∧
    vramCell .vertical 0x3F10 = vramCell .vertical 0x3FE0 ∧ vramCell .vertical 0x3F11 ≠ vramCell .vertical 0x3F01 ∧
    vramCell .vertical 0x1FFF ≠ vramCell .vertical 0x2FFF ∧ vramCell .singleHigh 0x2000 = vramCell .fourScreen 0x2400 := by decide

/-- SpriteOverflow, SkipFrameRender: the first and the last rendered line, rendering on; a picture row beside the line's own. -/
theorem test_witness_rendering : ∃ p : Ppu, (p.ppuMask.getLsbD 3 || p.ppuMask.getLsbD 4) = true ∧ 0 < 240 ∧ 239 < 240 ∧
    255 < 256 ∧ 0 + 8 ≠ 9 := ⟨{ m0.ppu with ppuMask := 0x08 }, by decide⟩

/-- SequencerStep: the wrap of the 4-step sequence with the interrupt allowed and inhibited, a step off the wrap, the wrap of the 5-step
sequence, and a DMC whose sample lies at the first PRG address. -/
theorem test_witness_sequencer : ∀ r ∈ [(3, false, false), (3, false, true), (0, false, false), (4, true, false)],
    ∃ s : State, s.Inv ∧ (s.apu.seqIndex, s.apu.seqMode, s.apu.frameIrqInhibit) = r ∧
      0x8000 ≤ s.apu.dmc.curAddr.toNat ∧ 0x8000 ≤ s.apu.dmc.sampleAddr.toNat := by
  intro r hr
  have h := test_witness_inv.1
  have hi : r.1 ≤ if r.2.1 then 4 else 3 := by revert r; decide
  exact ⟨{ m0 with apu := { m0.apu with seqIndex := r.1, seqMode := r.2.1, frameIrqInhibit := r.2.2,
                                        dmc := { m0.apu.dmc with curAddr := 0x8000, sampleAddr := 0xC000 } } },
    ⟨h.1, h.2, h.3, h.4, h.5, h.6, h.7, ⟨h.8.1, h.8.2, h.8.3, h.8.4, h.8.5, h.8.6, hi⟩, h.9⟩, rfl,
    Nat.le_refl 0x8000, (by decide : 0x8000 ≤ (0xC000 : Addr).toNat)⟩

/-- SpriteDma: the pages beside the ports. -/
theorem test_witness_dma_pages : ∀ d ∈ [(0x00 : Byte), 0x1F, 0x41, 0xFF], d.toNat < 0x20 ∨ 0x41 ≤ d.toNat := by decide

/-- RequestEffects: an idle machine, running or halted, with any request and any skip count up to the cap. -/
theorem test_witness_requests : ∀ (r : Request) (h : Bool), ∃ s : State, s.orch.phase = .idle ∧ s.io.inbox = [r] ∧
    s.orch.halted = h ∧ s.orch.skipRun = 4 ∧ s.cart.battery = true :=
  fun r h => ⟨{ m1 with io := { m1.io with inbox := [r] }, orch := { m1.orch with halted := h, skipRun := 4 } },
    rfl, rfl, rfl, rfl, rfl⟩

/-- A cartridge of mapper 0 with CHR ROM. -/
def cartChr : Cart := { Cart.blank with chrBanks := 1 }

theorem test_witness_chr : (construct cartChr).Inv ∧ 0 < cartChr.chrBanks ∧ Cart.blank.chrBanks = 0 ∧ cart1.chrBanks = 0 :=
  ⟨construct_inv ⟨by decide, by decide, by decide, by decide⟩, by decide, rfl, rfl⟩

/-- ResetRequestFrame: a frame and a skip-frame just below the cap, with CHR RAM (`m0`, `m1`) and CHR ROM, and with either mapper. -/
theorem test_witness_reset_frame : ∀ (skip : Bool), ∀ m ∈ [m0, m1, construct cartChr], ∃ s : State, s.Inv ∧ s.orch.phase = .idle ∧
    s.orch.halted = false ∧ s.orch.needInit = true ∧ s.orch.initKind = .reset ∧ s.orch.skipRun = 3 ∧ s.cart = m.cart ∧
    s.io.inbox = [if skip then .skipFrame (some 1) none else .frame (some 1) none] := by
  intro skip m hm
  have h : m.Inv ∧ m.orch.phase = .idle ∧ m.orch.halted = false ∧ m.orch.needInit = true := by
    simp only [List.mem_cons, List.not_mem_nil, or_false] at hm
    rcases hm with rfl | rfl | rfl
    · exact ⟨test_witness_inv.1, rfl, rfl, rfl⟩
    · exact ⟨test_witness_inv.2, rfl, rfl, rfl⟩
    · exact ⟨test_witness_chr.1, rfl, rfl, rfl⟩
  exact ⟨{ m with io := { m.io with inbox := [if skip then .skipFrame (some 1) none else .frame (some 1) none] },
                  orch := { m.orch with initKind := .reset, skipRun := 3 } },
    ⟨h.1.1, h.1.2, h.1.3, h.1.4, h.1.5, h.1.6, h.1.7, h.1.8, ⟨h.1.9.1, (by decide : 3 ≤ Config.skipCap)⟩⟩, h.2.1, h.2.2.1, h.2.2.2, rfl, rfl, rfl, rfl⟩

/-- SaveFlushed: each clause, and the counts at the edges. -/
theorem test_witness_flush :
    (∃ s : State, s.cart.battery = true ∧ s.saveDirty ≠ s.orch.lastDirty ∧ s.orch.flushBusy = 0 ∧ 61 ≤ 61) ∧
    (∃ s : State, s.cart.battery = true ∧ s.saveDirty = s.orch.lastDirty ∧ s.orch.flushBusy = 0 ∧ 600 ≤ 600) ∧
    ∃ s : State, s.cart.battery = false :=
  ⟨⟨{ m1 with saveDirty := 1 }, by decide⟩, ⟨m1, by decide⟩, ⟨m0, rfl⟩⟩

end Sys2Proof.Tests
end

section
/-! PROOFS. Reading the bus: what an operand read can change (R10, R17, R72), and the memories that every read leaves alone. -/

namespace Sys2Proof.Machine

open Sys2Proof.Spec

/-! ## What a read can change -/

theorem Ppu.SameMemories.refl (p : Ppu) : SameMemories p p := ⟨rfl, rfl, rfl, rfl, rfl, rfl⟩

theorem Ppu.SameMemories.trans {p q r : Ppu} (h : SameMemories p q) (k : SameMemories q r) : SameMemories p r :=
  ⟨h.1.trans k.1, h.2.trans k.2, h.3.trans k.3, h.4.trans k.4, h.5.trans k.5, h.6.trans k.6⟩

theorem Ppu.readPort_mirroring (n : Nat) (p : Ppu) : (p.readPort n).2.mirroring = p.mirroring := by
  unfold readPort readData
  dsimp only
  repeat' split
  all_goals rfl

/-- R72: `t` is `s` up to the registers of the PPU, the frame interrupt flag and the controllers. -/
def ReadFrame (s t : State) : Prop :=
  ∃ ppu f pads, t = { s with ppu := ppu, apu := { s.apu with frameIrq := f }, pads := pads } ∧
    Ppu.SameMemories ppu s.ppu ∧ ppu.mirroring = s.ppu.mirroring

theorem ReadFrame.refl (s : State) : ReadFrame s s := ⟨s.ppu, s.apu.frameIrq, s.pads, rfl, .refl _, rfl⟩

theorem ReadFrame.trans {s t u : State} (h : ReadFrame s t) (k : ReadFrame t u) : ReadFrame s u := by
  obtain ⟨p, f, c, rfl, hp, hm⟩ := h
  obtain ⟨p', f', c', rfl, hp', hm'⟩ := k
  exact ⟨p', f', c', rfl, hp'.trans hp, hm'.trans hm⟩

theorem apuRead_readFrame (n : Nat) (s : State) : ReadFrame s (apuRead n s).2 := by
  unfold apuRead
  split
  · exact ⟨s.ppu, false, s.pads, rfl, .refl _, rfl⟩
  split
  · exact ⟨s.ppu, s.apu.frameIrq, s.pads.readPad1.2, rfl, .refl _, rfl⟩
  split
  · exact ⟨s.ppu, s.apu.frameIrq, s.pads.readPad2.2, rfl, .refl _, rfl⟩
  · exact .refl s

theorem deviceRead_readFrame (dev : Device) (n : Nat) (s : State) : ReadFrame s (deviceRead dev n s).2 := by
  cases dev with
  | ppuPorts =>
    exact ⟨_, s.apu.frameIrq, s.pads, rfl, Ppu.readPort_memories _ _, Ppu.readPort_mirroring _ _⟩
  | apuIo => exact apuRead_readFrame n s
  | wram | openDev | saveRam | prg base => exact .refl s

theorem memRead_readFrame (a : Addr) (s : State) : ReadFrame s (memRead a s).2 := deviceRead_readFrame _ _ s

theorem zpRead16_readFrame (z : Byte) (s : State) : ReadFrame s (zpRead16 z s).2 :=
  (memRead_readFrame _ s).trans (memRead_readFrame _ _)

theorem pointer_readFrame (z : Nat) (s : State) : ReadFrame s (pointer z s).2 :=
  (memRead_readFrame _ s).trans (memRead_readFrame _ _)

theorem target_readFrame (m : Mode) (s : State) : ReadFrame s (m.target s).st := by
  cases m with
  | izx d | izy d => exact pointer_readFrame _ s
  | zp d | zpx d | zpy d | abs a | abx a | aby a => exact .refl s

/-- R17: the pointer reads of the mode, then the one read of the operand. -/
theorem srcRead_readFrame (o : Src) (s : State) : ReadFrame s (o.read s).st := by
  cases o with
  | imm d => exact .refl s
  | mem m => exact (target_readFrame m s).trans (memRead_readFrame _ _)

/-- R72: only the PPU's ports and the APU and I/O window have a read's side effect. -/
theorem memRead_of_plain {a : Addr} {s : State} (h : plain s a) : (memRead a s).2 = s := by
  obtain ⟨hppu, hapu⟩ := h
  unfold memRead
  generalize BusMap.lookup s.busMap a.toNat = r at hppu hapu
  obtain ⟨dev, n⟩ := r
  cases dev with
  | ppuPorts => exact absurd rfl hppu
  | apuIo => exact absurd rfl hapu
  | wram | openDev | saveRam | prg base => rfl

/-- Settles O37: a read operand is its pointer reads and one read, and each is a device read. -/
theorem operandReadFrame : Obligations.OperandReadFrame := by
  refine ⟨fun o s => ?_, fun a s hppu hapu => memRead_of_plain ⟨hppu, hapu⟩⟩
  obtain ⟨ppu, f, pads, ht, hmem, hmir⟩ := srcRead_readFrame o s
  exact ⟨ppu, f, pads, ht, hmem.pattern, hmem.nt, hmem.palette, hmem.oam, hmem.spriteLine, hmem.frame, hmir⟩

end Sys2Proof.Machine
end

section
/-! PROOFS. An instruction that stores nothing leaves every memory alone (R17, R92). -/

namespace Sys2Proof.Machine

open Sys2Proof.Spec

/-! ## What only a store can change -/

/-- The part of the state that only a bus write changes: the memories, the cartridge, the bus table, the mapper and the orchestrator. -/
structure Stored where
  wram      : Memory
  saveRam   : Memory
  saveDirty : Nat
  cart      : Cart
  busMap    : List BusRange
  mapper    : Mapper
  orch      : Orchestrator
  pattern   : Memory
  nt        : Memory
  palette   : Sparse (BitVec 6)
  oam       : Memory

def stored (s : State) : Stored where
  wram := s.wram
  saveRam := s.saveRam
  saveDirty := s.saveDirty
  cart := s.cart
  busMap := s.busMap
  mapper := s.mapper
  orch := s.orch
  pattern := s.ppu.pattern
  nt := s.ppu.nt
  palette := s.ppu.palette
  oam := s.ppu.oam

theorem ReadFrame.stored_eq {s t : State} (h : ReadFrame s t) : stored t = stored s := by
  obtain ⟨ppu, f, pads, rfl, hmem, -⟩ := h
  simp only [stored, hmem.pattern, hmem.nt, hmem.palette, hmem.oam]

theorem stored_memRead (a : Addr) (s : State) : stored (memRead a s).2 = stored s := (memRead_readFrame a s).stored_eq

theorem stored_zpRead16 (z : Byte) (s : State) : stored (zpRead16 z s).2 = stored s := (zpRead16_readFrame z s).stored_eq

theorem stored_eaInd (a : Addr) (s : State) : stored (eaInd a s).2 = stored s :=
  (stored_memRead _ _).trans (stored_memRead a s)

theorem stored_pull (s : State) : stored (pull s).2 = stored s := stored_memRead _ { s with sp := s.sp + 1 }

theorem stored_pull16 (s : State) : stored (pull16 s).2 = stored s := (stored_pull _).trans (stored_pull s)

theorem stored_returnFromInterrupt (s : State) : stored (returnFromInterrupt s) = stored s :=
  (stored_pull16 { (pull s).2 with p := statusPulled (pull s).1 }).trans (stored_pull s)

/-- A byte outside the device ports is read from the stored part of the state. -/
theorem peek_of_stored {s t : State} (h : stored t = stored s) {b : Addr} (hb : plain s b) : peek t b = peek s b := by
  obtain ⟨hppu, hapu⟩ := hb
  have hw : t.wram = s.wram := congrArg Stored.wram h
  have hs : t.saveRam = s.saveRam := congrArg Stored.saveRam h
  have hc : t.cart = s.cart := congrArg Stored.cart h
  have hm : t.busMap = s.busMap := congrArg Stored.busMap h
  unfold peek memRead
  rw [hm]
  generalize BusMap.lookup s.busMap b.toNat = r at hppu hapu
  obtain ⟨dev, n⟩ := r
  cases dev with
  | ppuPorts => exact absurd rfl hppu
  | apuIo => exact absurd rfl hapu
  | wram | openDev | saveRam | prg base => simp only [deviceRead, hw, hs, hc]

/-! ## The instructions that store nothing -/

/-- The instruction completes with the stored part of the state as it was. -/
def Quiet (s : State) (r : Result) : Prop := ∃ t, r = .next t ∧ stored t = stored s

theorem quiet_readMem (op : Byte) {s : State} {e : Ea × State} (he : stored e.2 = stored s) {f : Byte → State → State}
    (hf : ∀ m t, stored (f m t) = stored t) : Quiet s (.next (readMem op e f)) :=
  ⟨_, rfl, (hf _ _).trans ((stored_memRead _ _).trans he)⟩

theorem quiet_branch (op d : Byte) (c : Bool) (s : State) : Quiet s (.next (branch op d c s)) := by
  refine ⟨_, rfl, ?_⟩
  unfold branch
  cases c <;> rfl

theorem quiet_unknownOpcode (op : Byte) (s : State) : Quiet s (unknownOpcode op s) := ⟨_, rfl, rfl⟩

theorem exec_quiet {i : Instr} (hi : stores i = false) (s : State) : Quiet s (exec i s) := by
  cases i with
  -- loads, logic, arithmetic and compares from memory, the address known without a read
  | ldaZp | ldaZpx | ldaAbs | ldaAbx | ldaAby | ldxZp | ldxZpy | ldxAbs | ldxAby | ldyZp | ldyZpx | ldyAbs | ldyAbx
  | andZp | andZpx | andAbs | andAbx | andAby | oraZp | oraZpx | oraAbs | oraAbx | oraAby
  | eorZp | eorZpx | eorAbs | eorAbx | eorAby | adcZp | adcZpx | adcAbs | adcAbx | adcAby
  | sbcZp | sbcZpx | sbcAbs | sbcAbx | sbcAby | cmpZp | cmpZpx | cmpAbs | cmpAbx | cmpAby
  | cpxZp | cpxAbs | cpyZp | cpyAbs | bitZp | bitAbs => exact quiet_readMem _ rfl (fun _ _ => rfl)
  -- the same through a zero-page pointer
  | ldaIzx | ldaIzy | andIzx | andIzy | oraIzx | oraIzy | eorIzx | eorIzy | adcIzx | adcIzy | sbcIzx | sbcIzy
  | cmpIzx | cmpIzy => exact quiet_readMem _ (stored_zpRead16 _ s) (fun _ _ => rfl)
  -- registers and flags only
  | ldaImm | ldxImm | ldyImm | andImm | oraImm | eorImm | adcImm | sbcImm | cmpImm | cpxImm | cpyImm
  | aslAcc | lsrAcc | rolAcc | rorAcc | tax | tay | txa | tya | tsx | txs | inx | iny | dex | dey
  | clc | sec | cli | sei | clv | cld | sed | nop | brk | jmpAbs => exact ⟨_, rfl, rfl⟩
  | bccRel | bcsRel | beqRel | bneRel | bmiRel | bplRel | bvcRel | bvsRel => exact quiet_branch _ _ _ s
  -- pulls, and the jump's pointer
  | pla | plp => exact ⟨_, rfl, stored_pull s⟩
  | rts => exact ⟨_, rfl, stored_pull16 s⟩
  | rti => exact ⟨_, rfl, stored_returnFromInterrupt s⟩
  | jmpInd a => exact ⟨_, rfl, stored_eaInd a s⟩
  -- what stores is excluded by `hi`
  | staZp | staZpx | staAbs | staAbx | staAby | staIzx | staIzy | stxZp | stxZpy | stxAbs | styZp | styZpx | styAbs
  | incZp | incZpx | incAbs | incAbx | decZp | decZpx | decAbs | decAbx | aslZp | aslZpx | aslAbs | aslAbx
  | lsrZp | lsrZpx | lsrAbs | lsrAbx | rolZp | rolZpx | rolAbs | rolAbx | rorZp | rorZpx | rorAbs | rorAbx
  | jsrAbs | pha | php => cases hi
  | _ => exact quiet_unknownOpcode _ s

/-- Settles O39: an instruction that stores nothing keeps the stored part of the state, and plain addresses read from it alone. -/
theorem nonStoringFrame : Obligations.NonStoringFrame := by
  intro i s t hi ht
  obtain ⟨t', ht', h⟩ := exec_quiet hi s
  obtain rfl : t' = t := by simpa [ht'] using ht
  exact ⟨congrArg Stored.wram h, congrArg Stored.saveRam h, congrArg Stored.saveDirty h, congrArg Stored.cart h,
    congrArg Stored.busMap h, congrArg Stored.mapper h, congrArg Stored.orch h, congrArg Stored.pattern h,
    congrArg Stored.nt h, congrArg Stored.palette h, congrArg Stored.oam h, fun b hb => peek_of_stored h hb⟩

end Sys2Proof.Machine
end

section
/-! PROOFS. The effective addresses of the statements are the machine's, and each storing instruction is one of the machine's shapes. -/

namespace Sys2Proof.Machine

open Sys2Proof.Spec

/-! ## Effective addresses (R116 to R123) -/

theorem adr_toNat (a : Addr) : adr a.toNat = a := BitVec.ofNat_toNat 16 a

theorem adr_eq_zpAddr {n : Nat} {z : Byte} (h : n = z.toNat) : adr n = zpAddr z := by
  rw [h, ← toNat_zpAddr, adr_toNat]

/-- R14: the pointer of the statements is the machine's. -/
theorem pointer_eq {n : Nat} {z : Byte} (h : n = z.toNat) (s : State) :
    pointer n s = ((zpRead16 z s).1.toNat, (zpRead16 z s).2) := by
  have hlo : adr (n % 256) = zpAddr z := adr_eq_zpAddr (by omega)
  have hhi : adr ((n + 1) % 256) = zpAddr (z + 1) := adr_eq_zpAddr (by rw [BitVec.toNat_add, h]; rfl)
  simp only [pointer, zpRead16, hlo, hhi, toNat_word]

/-- The machine's addressing-mode step of a mode. -/
def modeEa : Mode → State → Ea × State
  | .zp d => eaZp d
  | .zpx d => eaZpx d
  | .zpy d => eaZpy d
  | .abs a => eaAbs a
  | .abx a => eaAbx a
  | .aby a => eaAby a
  | .izx d => eaIzx d
  | .izy d => eaIzy d

theorem toNat_indexed (a : Addr) (i : Byte) : (indexed a i).addr.toNat = (a.toNat + i.toNat) % 65536 := by
  have := i.isLt
  simp only [indexed, BitVec.toNat_add, BitVec.toNat_setWidth]
  omega

theorem modeEa_addr (m : Mode) (s : State) : (modeEa m s).1.addr.toNat = (m.target s).addr := by
  cases m with
  | zp d => exact toNat_zpAddr d
  | zpx d | zpy d => exact (toNat_zpAddr _).trans (BitVec.toNat_add _ _)
  | abs a => rfl
  | abx a | aby a => exact toNat_indexed a _
  | izx d => simp only [modeEa, eaIzx, Mode.target, pointer_eq (z := d + s.x) (BitVec.toNat_add _ _).symm]
  | izy d =>
    simp only [modeEa, eaIzy, Mode.target, pointer_eq (z := d) rfl, indexedTarget, toNat_indexed, zpRead16_y]

theorem modeEa_st (m : Mode) (s : State) : (modeEa m s).2 = (m.target s).st := by
  cases m with
  | zp d | zpx d | zpy d | abs a | abx a | aby a => rfl
  | izx d => simp only [modeEa, eaIzx, Mode.target, pointer_eq (z := d + s.x) (BitVec.toNat_add _ _).symm]
  | izy d => simp only [modeEa, eaIzy, Mode.target, pointer_eq (z := d) rfl, indexedTarget]

theorem stored_modeEa (m : Mode) (s : State) : stored (modeEa m s).2 = stored s :=
  modeEa_st m s ▸ (target_readFrame m s).stored_eq

/-! ## The shapes of the storing instructions -/

/-- The form is a write-type instruction that stores the register `v`. -/
def Writes (f : MForm) (s : State) (v : State → Byte) : Prop := exec f.instr s = .next (writeMem (byte f.op) (modeEa f.mode s) v)

/-- The form is a read-modify-write instruction with the operation `g`. -/
def Modifies (f : MForm) (s : State) (g : Byte → State → Byte × State) : Prop :=
  exec f.instr s = .next (modifyMem (byte f.op) (modeEa f.mode s) g)

section
variable (d : Byte) (a : Addr) (s : State)

theorem staForms_writes : ∀ f ∈ staForms d a, Writes f s State.a := by
  simp only [staForms, List.forall_mem_cons, List.not_mem_nil, false_implies, implies_true, and_true]
  exact ⟨rfl, rfl, rfl, rfl, rfl, rfl, rfl⟩

theorem stxForms_writes : ∀ f ∈ stxForms d a, Writes f s State.x := by
  simp only [stxForms, List.forall_mem_cons, List.not_mem_nil, false_implies, implies_true, and_true]
  exact ⟨rfl, rfl, rfl⟩

theorem styForms_writes : ∀ f ∈ styForms d a, Writes f s State.y := by
  simp only [styForms, List.forall_mem_cons, List.not_mem_nil, false_implies, implies_true, and_true]
  exact ⟨rfl, rfl, rfl⟩

/-- A property of four forms is one property per mode. -/
theorem forall_mem_fourForms {P : MForm → Prop} {ops : Fin 4 → Nat} {zp zpx : Byte → Instr} {ab abx : Addr → Instr}
    (h0 : P ⟨ops 0, zp d, .zp d, 5⟩) (h1 : P ⟨ops 1, zpx d, .zpx d, 6⟩) (h2 : P ⟨ops 2, ab a, .abs a, 6⟩)
    (h3 : P ⟨ops 3, abx a, .abx a, 7⟩) : ∀ f ∈ fourForms ops zp zpx ab abx d a, P f := by
  simp only [fourForms, List.forall_mem_cons, List.not_mem_nil, false_implies, implies_true, and_true]
  exact ⟨h0, h1, h2, h3⟩

theorem incForms_modify : ∀ f ∈ incForms d a, Modifies f s incOp := forall_mem_fourForms d a rfl rfl rfl rfl
theorem decForms_modify : ∀ f ∈ decForms d a, Modifies f s decOp := forall_mem_fourForms d a rfl rfl rfl rfl
theorem aslForms_modify : ∀ f ∈ aslForms d a, Modifies f s aslOp := forall_mem_fourForms d a rfl rfl rfl rfl
theorem lsrForms_modify : ∀ f ∈ lsrForms d a, Modifies f s lsrOp := forall_mem_fourForms d a rfl rfl rfl rfl
theorem rolForms_modify : ∀ f ∈ rolForms d a, Modifies f s rolOp := forall_mem_fourForms d a rfl rfl rfl rfl
theorem rorForms_modify : ∀ f ∈ rorForms d a, Modifies f s rorOp := forall_mem_fourForms d a rfl rfl rfl rfl

end

end Sys2Proof.Machine
end

section
/-! PROOFS. A storing instruction changes only the cells it stores to (R17, R82, R92, R12). -/

namespace Sys2Proof.Machine

open Sys2Proof.Spec

/-! ## Cells and the bus table -/

theorem plain_congr {s t : State} (h : t.busMap = s.busMap) (b : Addr) : plain t b ↔ plain s b := by
  unfold plain; rw [h]

theorem cell_congr {s t : State} (h : t.busMap = s.busMap) (n : Nat) : cell t n = cell s n := by
  unfold cell; rw [h]

theorem holdsData_congr {s t : State} (h : t.busMap = s.busMap) (n : Nat) : holdsData t n ↔ holdsData s n := by
  unfold holdsData; rw [cell_congr h]

/-- R74: a byte of work RAM written shows at its own cell only. -/
theorem peek_write_wram {s : State} {b : Addr} {n : Nat} (hb : plain s b) (h : cell s b.toNat ≠ (.wram, n % 2048)) (v : Byte) :
    peek { s with wram := Memory.write s.wram (n % 2048) v } b = peek s b := by
  obtain ⟨hppu, hapu⟩ := hb
  simp only [cell] at h
  simp only [peek, memRead]
  generalize BusMap.lookup s.busMap b.toNat = r at hppu hapu h
  obtain ⟨dev, m⟩ := r
  cases dev with
  | ppuPorts => exact absurd rfl hppu
  | apuIo => exact absurd rfl hapu
  | wram =>
    have hne : m % 2048 ≠ n % 2048 := fun e => h (congrArg (Prod.mk Device.wram) e)
    exact (Memory.read_write _ _ _ _).trans (if_neg hne)
  | openDev | saveRam | prg base => rfl

/-- R78: a byte of the save buffer written shows at its own cell only. -/
theorem peek_write_saveRam {s : State} {b : Addr} {n : Nat} (hb : plain s b) (h : cell s b.toNat ≠ (.saveRam, n % 8192))
    (v : Byte) (k : Nat) :
    peek { s with saveRam := Memory.write s.saveRam (n % 8192) v, saveDirty := k } b = peek s b := by
  obtain ⟨hppu, hapu⟩ := hb
  simp only [cell] at h
  simp only [peek, memRead]
  generalize BusMap.lookup s.busMap b.toNat = r at hppu hapu h
  obtain ⟨dev, m⟩ := r
  cases dev with
  | ppuPorts => exact absurd rfl hppu
  | apuIo => exact absurd rfl hapu
  | saveRam =>
    have hne : m % 8192 ≠ n % 8192 := fun e => h (congrArg (Prod.mk Device.saveRam) e)
    exact (Memory.read_write _ _ _ _).trans (if_neg hne)
  | wram | openDev | prg base => rfl

/-! ## The frame of a store -/

/-- From `s` to `t` the bus table stays, and so does every byte that is in no cell of the addresses `ns`. -/
structure CellFrame (ns : List Nat) (s t : State) : Prop where
  busMap : t.busMap = s.busMap
  peek   : ∀ b : Addr, plain s b → (∀ n ∈ ns, cell s b.toNat ≠ cell s n) → peek t b = peek s b

section
variable {ns : List Nat} {s t u : State}

theorem CellFrame.of_stored (h : stored t = stored s) : CellFrame ns s t :=
  ⟨congrArg Stored.busMap h, fun _ hb _ => peek_of_stored h hb⟩

theorem CellFrame.trans (h : CellFrame ns s t) (k : CellFrame ns t u) : CellFrame ns s u := by
  refine ⟨k.busMap.trans h.busMap, fun b hb hne => ?_⟩
  have hne' : ∀ n ∈ ns, cell t b.toNat ≠ cell t n := by simpa only [cell_congr h.busMap] using hne
  exact (k.peek b ((plain_congr h.busMap b).2 hb) hne').trans (h.peek b hb hne)

theorem cellFrame_memWrite {a : Addr} (hd : holdsData s a.toNat) (ha : a.toNat ∈ ns) (v : Byte) :
    CellFrame ns s (memWrite a v s) := by
  have hcell : ∀ b : Addr, (∀ n ∈ ns, cell s b.toNat ≠ cell s n) → cell s b.toNat ≠ cell s a.toNat := fun _ h => h _ ha
  simp only [holdsData, cell.eq_def s a.toNat] at hd hcell
  unfold memWrite
  generalize BusMap.lookup s.busMap a.toNat = r at hd hcell
  obtain ⟨dev, n⟩ := r
  cases dev with
  | wram => exact ⟨rfl, fun b hb hne => peek_write_wram hb (hcell b hne) v⟩
  | saveRam => exact ⟨rfl, fun b hb hne => peek_write_saveRam hb (hcell b hne) v _⟩
  | openDev => exact .of_stored rfl
  | ppuPorts | apuIo | prg base => simp at hd

theorem cellFrame_push (hd : ∀ n ∈ ns, holdsData s n) (hn : 256 + s.sp.toNat ∈ ns) (v : Byte) :
    CellFrame ns s (push v s) := by
  have ha : (stackAddr s.sp).toNat = 256 + s.sp.toNat := toNat_word _ _
  have hw : CellFrame ns s (memWrite (stackAddr s.sp) v s) := cellFrame_memWrite (ha ▸ hd _ hn) (ha ▸ hn) v
  exact hw.trans (.of_stored rfl)

/-- JSR's two pushes: the second is one below the first, modulo 256. -/
theorem cellFrame_push16 (hd : ∀ n ∈ ns, holdsData s n) (hn : 256 + s.sp.toNat ∈ ns)
    (hn' : 256 + (s.sp.toNat + 255) % 256 ∈ ns) (v : Addr) : CellFrame ns s (push16 v s) := by
  have h1 : CellFrame ns s (push (hiByte v) s) := cellFrame_push hd hn _
  have hsp : (push (hiByte v) s).sp.toNat = (s.sp.toNat + 255) % 256 := by rw [push_sp]; bv_omega
  have hd' : ∀ n ∈ ns, holdsData (push (hiByte v) s) n := fun n h => (holdsData_congr h1.busMap n).2 (hd n h)
  exact h1.trans (cellFrame_push hd' (hsp ▸ hn') (loByte v))

/-! ## The storing instructions -/

/-- The instruction completes, and leaves every byte that is in no cell of the addresses `ns`. -/
def StoresAt (ns : List Nat) (s : State) (r : Result) : Prop := ∃ t, r = .next t ∧ CellFrame ns s t

theorem cellFrame_memWrite_ea {m : Mode} (hd : holdsData s (m.target s).addr) (hu : stored u = stored s) (v : Byte) :
    CellFrame [(m.target s).addr] s (memWrite (modeEa m s).1.addr v u) := by
  have hb : u.busMap = s.busMap := congrArg Stored.busMap hu
  have hd' : holdsData u (modeEa m s).1.addr.toNat := by rw [holdsData_congr hb, modeEa_addr]; exact hd
  exact (CellFrame.of_stored hu).trans (cellFrame_memWrite hd' (by simp [modeEa_addr]) v)

theorem Writes.storesAt {f : MForm} {v : State → Byte} (h : Writes f s v) (hd : holdsData s (f.mode.target s).addr) :
    StoresAt [(f.mode.target s).addr] s (exec f.instr s) :=
  ⟨_, h, (cellFrame_memWrite_ea hd (stored_modeEa f.mode s) _).trans (.of_stored rfl)⟩

theorem Modifies.storesAt {f : MForm} {g : Byte → State → Byte × State} (h : Modifies f s g)
    (hg : ∀ m t, stored (g m t).2 = stored t) (hd : holdsData s (f.mode.target s).addr) :
    StoresAt [(f.mode.target s).addr] s (exec f.instr s) := by
  have hr := stored_memRead (modeEa f.mode s).1.addr (modeEa f.mode s).2
  exact ⟨_, h, (cellFrame_memWrite_ea hd ((hg _ _).trans (hr.trans (stored_modeEa f.mode s))) _).trans (.of_stored rfl)⟩

/-- Every form of a store or a read-modify-write instruction stores at its effective address. -/
theorem storesAt_of_form {d : Byte} {a : Addr} {f : MForm}
    (hf : f ∈ staForms d a ++ stxForms d a ++ styForms d a ++ incForms d a ++ decForms d a ++ aslForms d a ++ lsrForms d a ++
      rolForms d a ++ rorForms d a)
    (hd : holdsData s (f.mode.target s).addr) : StoresAt [(f.mode.target s).addr] s (exec f.instr s) := by
  simp only [List.mem_append] at hf
  rcases hf with (((((((hf | hf) | hf) | hf) | hf) | hf) | hf) | hf) | hf
  · exact (staForms_writes d a s f hf).storesAt hd
  · exact (stxForms_writes d a s f hf).storesAt hd
  · exact (styForms_writes d a s f hf).storesAt hd
  · exact (incForms_modify d a s f hf).storesAt (fun _ _ => rfl) hd
  · exact (decForms_modify d a s f hf).storesAt (fun _ _ => rfl) hd
  · exact (aslForms_modify d a s f hf).storesAt (fun _ _ => rfl) hd
  · exact (lsrForms_modify d a s f hf).storesAt (fun _ _ => rfl) hd
  · exact (rolForms_modify d a s f hf).storesAt (fun _ _ => rfl) hd
  · exact (rorForms_modify d a s f hf).storesAt (fun _ _ => rfl) hd

theorem storesAt_of_mem {d : Byte} {a : Addr} {f : Instr × List Nat} (hf : f ∈ storeAddresses d a s)
    (hd : ∀ n ∈ f.2, holdsData s n) : StoresAt f.2 s (exec f.1 s) := by
  rcases List.mem_append.1 hf with hf | hf
  · obtain ⟨g, hg, rfl⟩ := List.mem_map.1 hf
    exact storesAt_of_form hg (hd _ (List.mem_singleton_self _))
  · simp only [List.mem_cons, List.not_mem_nil, or_false] at hf
    rcases hf with rfl | rfl | rfl
    · exact ⟨_, rfl, (cellFrame_push16 hd (by simp) (by simp) _).trans (.of_stored rfl)⟩
    · exact ⟨_, rfl, (cellFrame_push hd (List.mem_singleton_self _) s.a).trans (.of_stored rfl)⟩
    · exact ⟨_, rfl, (cellFrame_push hd (List.mem_singleton_self _) (statusWithB s.p)).trans (.of_stored rfl)⟩

end

/-- Settles O41: each storing instruction is bus writes to its addresses between updates that keep the stored part of the state. -/
theorem storingFrame : Obligations.StoringFrame := by
  intro d a s t f hf hd ht b hb hne
  obtain ⟨t', ht', hframe⟩ := storesAt_of_mem hf hd
  obtain rfl : t' = t := by simpa [ht'] using ht
  exact hframe.peek b hb hne

end Sys2Proof.Machine
end

section
/-! PROOFS. The priority of interrupt requests (R15, R252). -/

namespace Sys2Proof.Machine

open Sys2Proof.Spec

/-- The machine's rank of a tag is its place in the order of R252. -/
theorem idxOf_tagOrder (k : Tag) : tagOrder.idxOf k = tagRank k := by cases k <;> decide

/-- Settles O31: the merged tag is the one of higher rank. -/
theorem requestPriority : Obligations.RequestPriority := by
  intro k s
  simp only [idxOf_tagOrder]
  by_cases h : tagRank s.pending < tagRank k
  · exact ⟨k, .inr rfl, by omega, le_rfl, by simp only [request, mergePending, if_pos h]⟩
  · exact ⟨s.pending, .inl rfl, le_rfl, by omega, by simp only [request, mergePending, if_neg h]⟩

end Sys2Proof.Machine
end

section
/-! PROOFS. What a step is in each phase (R132, R450, R455, R458), and that it keeps the invariant. -/

namespace Sys2Proof.Machine

/-! ## The step by phase -/

theorem step_of_idle {s : State} (h : s.orch.phase = .idle) : step s = .next (idleStep s) := by
  simp only [step, machineStep, h]

theorem step_of_lineStart {s : State} (h : s.orch.phase = .lineStart) : step s = .next (lineTop s) := by
  simp only [step, machineStep, h]

/-- R458: with budget left a step is the interrupt check and one instruction. -/
theorem step_of_budget {s : State} (h : s.orch.phase = .cpu) (hc : s.cyc < Config.lineBudget) :
    step s = cpuStep (servicePending s) := by
  simp only [step, machineStep, h, cpuPhase, if_pos hc]

/-- R458: with the budget spent a step is the end of the line. -/
theorem step_of_spent {s : State} (h : s.orch.phase = .cpu) (hc : ¬ s.cyc < Config.lineBudget) :
    step s = .next (lineEnd s) := by
  simp only [step, machineStep, h, cpuPhase, if_neg hc]

/-! ## The invariant -/

theorem step_inv {s : State} (h : s.Inv) : ∃ t, step s = .next t ∧ t.Inv := by
  cases hp : s.orch.phase with
  | idle => exact ⟨_, step_of_idle hp, idleStep_inv h⟩
  | lineStart => exact ⟨_, step_of_lineStart hp, lineTop_inv h⟩
  | cpu =>
    by_cases hc : s.cyc < Config.lineBudget
    · rw [step_of_budget hp hc]
      exact inv_closed.cpuStep (inv_closed.servicePending h)
    · exact ⟨_, step_of_spent hp hc, lineEnd_inv h⟩

/-- Settles O28: a step is an orchestrator's move or the CPU's step, and each keeps the invariant. -/
theorem stepKeepsInv : Obligations.StepKeepsInv := by
  intro s t h ht
  obtain ⟨t', ht', hinv⟩ := step_inv h
  obtain rfl : t' = t := by simpa [ht'] using ht
  exact hinv

/-! ## Reset -/

theorem reset_inv : State.reset.Inv := by
  have hblank : Cart.blank.Ok := ⟨by decide, by decide, by decide, by decide⟩
  rw [reset_eq_construct]
  exact construct_inv hblank

/-- Settles O27: the invariant by construction from the blank cartridge, the power-on values (R53) field by field. -/
theorem resetInv : Obligations.ResetInv :=
  ⟨reset_inv, rfl, rfl, rfl, rfl, rfl, by decide, rfl, rfl, rfl, rfl,
    fun _ => ⟨rfl, rfl, rfl, rfl, rfl, rfl, rfl⟩, by decide⟩

end Sys2Proof.Machine
end

section
/-! PROOFS. A memory in canonical form is determined by what it reads (log entry 9). -/

namespace Sys2Proof.Machine

namespace Sparse

variable {α : Type} [DecidableEq α] {z : α} {size : Nat}

theorem wf_cons {c : Nat × α} {m : Sparse α} :
    wf z size (c :: m) = true ↔ (c.1 < size ∧ c.2 ≠ z) ∧ (∀ d ∈ m, c.1 < d.1) ∧ wf z size m = true := by
  simp only [wf_iff, rising_cons, List.forall_mem_cons]
  tauto

omit [DecidableEq α] in
@[simp] theorem read_cons_self (c : Nat × α) (m : Sparse α) : read z (c :: m) c.1 = c.2 := if_pos rfl

omit [DecidableEq α] in
theorem read_cons_of_ne {c : Nat × α} {a : Nat} (h : c.1 ≠ a) (m : Sparse α) : read z (c :: m) a = read z m a := if_neg h

/-- The first key of a canonical memory is one that does not read as the default, so a memory that reads alike has a key no later. -/
theorem head_le_of_read_eq {c d : Nat × α} {m k : Sparse α} (hm : wf z size (c :: m) = true) (hk : wf z size (d :: k) = true)
    (h : ∀ a, read z (c :: m) a = read z (d :: k) a) : d.1 ≤ c.1 := by
  obtain ⟨⟨-, hne⟩, -, -⟩ := wf_cons.1 hm
  obtain ⟨-, hlt, -⟩ := wf_cons.1 hk
  by_contra hcd
  have hbelow : ∀ e ∈ d :: k, c.1 < e.1 := by
    refine List.forall_mem_cons.2 ⟨by omega, fun e he => ?_⟩
    have := hlt e he
    omega
  exact hne ((read_cons_self c m).symm.trans ((h c.1).trans (read_of_lt hbelow)))

theorem eq_of_read_eq {m k : Sparse α} (hm : wf z size m = true) (hk : wf z size k = true)
    (h : ∀ a, read z m a = read z k a) : m = k := by
  induction m generalizing k with
  | nil =>
    cases k with
    | nil => rfl
    | cons d k => exact absurd ((read_cons_self d k).symm.trans (h d.1).symm) (wf_cons.1 hk).1.2
  | cons c m ih =>
    cases k with
    | nil => exact absurd ((read_cons_self c m).symm.trans (h c.1)) (wf_cons.1 hm).1.2
    | cons d k =>
      have hkey : c.1 = d.1 := Nat.le_antisymm (head_le_of_read_eq hk hm (fun a => (h a).symm)) (head_le_of_read_eq hm hk h)
      have hval : c.2 = d.2 := by
        have := h c.1
        rwa [read_cons_self, hkey, read_cons_self] at this
      obtain rfl : c = d := Prod.ext hkey hval
      obtain ⟨-, hltm, hwm⟩ := wf_cons.1 hm
      obtain ⟨-, hltk, hwk⟩ := wf_cons.1 hk
      refine congrArg _ (ih hwm hwk fun a => ?_)
      by_cases ha : c.1 = a
      · rw [read_of_lt (ha ▸ hltm), read_of_lt (ha ▸ hltk)]
      · simpa only [read_cons_of_ne ha] using h a

end Sparse

/-- Settles O43, by induction on the two lists: equal reads give equal first entries. -/
theorem memoriesEqualAsData : Obligations.MemoriesEqualAsData := fun _ _ _ hm hk h => Sparse.eq_of_read_eq hm hk h

end Sys2Proof.Machine
end

section
/-! PROOFS. How far a step can take the cycle counter (R16, R26, R458, R495). -/

namespace Sys2Proof.Machine

/-! ## The cycle table (R495, R496) -/

theorem cycleTable_le (op : Byte) : cycleTable op ≤ 7 := by
  have hgrid : ∀ i < 16, ∀ j < 16, (cycleRows.getD i []).getD j 0 ≤ 7 := by decide
  have hop := op.isLt
  exact hgrid _ (by omega) _ (by omega)

/-- R495: an opcode with a page penalty has a base count of at most 6. -/
theorem cycleTable_le_of_pagePenalty {op : Byte} (h : pagePenalty op = true) : cycleTable op ≤ 6 := by
  have hops : ∀ n ∈ pagePenaltyOps, cycleTable (BitVec.ofNat 8 n) ≤ 6 := by decide
  have := hops op.toNat (by simpa [pagePenalty] using h)
  rwa [BitVec.ofNat_toNat, BitVec.setWidth_eq] at this

theorem opCycles_le (op : Byte) (crossed : Bool) : opCycles op crossed ≤ 7 := by
  unfold opCycles
  cases hp : pagePenalty op with
  | false => simpa using cycleTable_le op
  | true =>
    have := cycleTable_le_of_pagePenalty hp
    have := Bool.toNat_le crossed
    rw [Bool.true_and]
    omega

/-! ## The bus -/

@[simp] theorem mapperWrite_cyc (a : Addr) (d : Byte) (s : State) : (mapperWrite a d s).cyc = s.cyc := by
  obtain ⟨_, _, _, h⟩ := mapperWrite_frame a d s; rw [h]

@[simp] theorem dmcRefill_cyc (s : State) : (dmcRefill s).cyc = s.cyc := by
  unfold dmcRefill
  dsimp only
  split
  · split <;> exact memRead_cyc _ s
  · rfl

@[simp] theorem dmcStart_cyc (d : Byte) (s : State) : (dmcStart d s).cyc = s.cyc := by
  unfold dmcStart
  split
  · exact dmcRefill_cyc _
  · rfl

/-- R380: only the sprite DMA's port charges cycles. -/
theorem apuWrite_cyc_le (n : Nat) (d : Byte) (s : State) : (apuWrite n d s).cyc ≤ s.cyc + 513 := by
  unfold apuWrite
  split
  · exact Nat.le_add_right _ _
  split
  · exact (oamDma_cyc d s).le
  split
  · rw [dmcStart_cyc]
    exact Nat.le_add_right _ _
  split
  · exact Nat.le_add_right _ _
  split <;> exact Nat.le_add_right _ _

theorem deviceWrite_cyc_le (dev : Device) (n : Nat) (a : Addr) (d : Byte) (s : State) :
    (deviceWrite dev n a d s).cyc ≤ s.cyc + 513 := by
  cases dev with
  | apuIo => exact apuWrite_cyc_le n d s
  | prg base => exact (mapperWrite_cyc a d s).trans_le (Nat.le_add_right _ _)
  | wram | ppuPorts | openDev | saveRam => exact Nat.le_add_right _ _

theorem memWrite_cyc_le (a : Addr) (d : Byte) (s : State) : (memWrite a d s).cyc ≤ s.cyc + 513 :=
  deviceWrite_cyc_le _ _ a d s

/-- R73, R74: what the bus does with an access to work RAM. -/
theorem lookup_wram {s : State} (h : s.Inv) {a : Nat} (ha : a < 0x2000) : BusMap.lookup s.busMap a = (.wram, a) := by
  rw [h.bus.windows a (by omega)]
  have : a ≤ 0x1FFF := by omega
  simp [BusMap.fixedWindows, BusMap.lookup, BusMap.holds, this]

theorem memWrite_wram {s : State} (h : s.Inv) {a : Addr} (ha : a.toNat < 0x2000) (d : Byte) :
    memWrite a d s = { s with wram := Memory.write s.wram (a.toNat % 2048) d } := by
  simp only [memWrite, lookup_wram h ha, deviceWrite]

/-! ## The stack, the fetch and the interrupt check -/

/-- R12, R73: the stack page lies in work RAM, so a push charges nothing. -/
theorem push_cyc {s : State} (h : s.Inv) (v : Byte) : (push v s).cyc = s.cyc := by
  have ha : (stackAddr s.sp).toNat < 0x2000 := by
    have hsp := s.sp.isLt
    have : (stackAddr s.sp).toNat = 256 * 1 + s.sp.toNat := toNat_word _ _
    omega
  simp only [push, memWrite_wram h ha]

theorem push16_cyc {s : State} (h : s.Inv) (v : Addr) : (push16 v s).cyc = s.cyc :=
  (push_cyc (inv_closed.push _ h) _).trans (push_cyc h _)

theorem service_cyc {s : State} (h : s.Inv) (k : Tag) : (service k s).cyc = s.cyc + 7 := by
  have h1 := push16_cyc h s.pc
  have h2 := push_cyc (inv_closed.push16 s.pc h) (pushedStatus k (push16 s.pc s).p)
  unfold service
  dsimp only
  rw [addCycles_cyc, memRead16_cyc, ← h1, ← h2]
  rfl

@[simp] theorem doReset_cyc (s : State) : (doReset s).cyc = 0 := memRead16_cyc _ _

theorem servicePending_cyc_le {s : State} (h : s.Inv) : (servicePending s).cyc ≤ s.cyc + 7 := by
  unfold servicePending
  cases s.pending with
  | none => exact Nat.le_add_right _ _
  | reset =>
    show (doReset s).cyc + 7 ≤ s.cyc + 7
    rw [doReset_cyc]
    omega
  | nmi => exact (service_cyc h _).le
  | irq | brk =>
    dsimp only
    split
    · exact Nat.le_add_right _ _
    · exact (service_cyc h _).le

theorem fetchInstr_cyc (s : State) : (fetchInstr s).2.cyc = s.cyc := by
  unfold fetchInstr
  dsimp only
  split <;> simp only [fetch8_cyc]

theorem eaInd_cyc (a : Addr) (s : State) : (eaInd a s).2.cyc = s.cyc := (memRead_cyc _ _).trans (memRead_cyc a s)

theorem returnFromInterrupt_cyc (s : State) : (returnFromInterrupt s).cyc = s.cyc := (pull16_cyc _).trans (pull_cyc s)

/-! ## An instruction -/

/-- The instruction completes and charges at most 520 cycles, its own 7 and a sprite DMA's 513. -/
def Charges (s : State) (r : Result) : Prop := ∃ t, r = .next t ∧ t.cyc ≤ s.cyc + 520

theorem charges_addCycles {s t : State} {n : Nat} (ht : t.cyc = s.cyc) (hn : n ≤ 520) : Charges s (.next (addCycles n t)) := by
  refine ⟨_, rfl, ?_⟩
  rw [addCycles_cyc, ht]
  omega

theorem charges_implied (op : Byte) {s : State} {f : State → State} (hf : (f s).cyc = s.cyc) :
    Charges s (.next (implied op f s)) :=
  charges_addCycles hf ((opCycles_le op false).trans (by decide))

theorem charges_immediate (op m : Byte) {s : State} {f : Byte → State → State} (hf : (f m s).cyc = s.cyc) :
    Charges s (.next (immediate op m f s)) :=
  charges_implied op hf

theorem charges_modifyAcc (op : Byte) {s : State} {f : Byte → State → Byte × State} (hf : (f s.a s).2.cyc = s.cyc) :
    Charges s (.next (modifyAcc op f s)) :=
  charges_addCycles hf ((opCycles_le op false).trans (by decide))

theorem charges_readMem (op : Byte) {s : State} {e : Ea × State} (he : e.2.cyc = s.cyc) {f : Byte → State → State}
    (hf : ∀ m t, (f m t).cyc = t.cyc) : Charges s (.next (readMem op e f)) :=
  charges_addCycles ((hf _ _).trans ((memRead_cyc _ _).trans he)) ((opCycles_le op _).trans (by decide))

theorem charges_writeMem (op : Byte) {s : State} {e : Ea × State} (he : e.2.cyc = s.cyc) (v : State → Byte) :
    Charges s (.next (writeMem op e v)) := by
  refine ⟨_, rfl, ?_⟩
  have hw := memWrite_cyc_le e.1.addr (v e.2) e.2
  have hop := opCycles_le op e.1.crossed
  rw [writeMem, addCycles_cyc]
  omega

theorem charges_modifyMem (op : Byte) {s : State} {e : Ea × State} (he : e.2.cyc = s.cyc)
    {f : Byte → State → Byte × State} (hf : ∀ m t, (f m t).2.cyc = t.cyc) : Charges s (.next (modifyMem op e f)) := by
  refine ⟨_, rfl, ?_⟩
  have hr := (hf (memRead e.1.addr e.2).1 (memRead e.1.addr e.2).2).trans (memRead_cyc e.1.addr e.2)
  generalize hm : f (memRead e.1.addr e.2).1 (memRead e.1.addr e.2).2 = r at hr
  have hw := memWrite_cyc_le e.1.addr r.1 r.2
  have hop := opCycles_le op e.1.crossed
  simp only [modifyMem, hm, addCycles_cyc, setNZ_cyc]
  omega

theorem charges_branch (op d : Byte) (c : Bool) (s : State) : Charges s (.next (branch op d c s)) := by
  have hop := cycleTable_le op
  unfold branch
  dsimp only
  cases c with
  | false => exact charges_addCycles rfl (by omega)
  | true => exact charges_addCycles rfl (by split <;> omega)

theorem charges_unknownOpcode (op : Byte) (s : State) : Charges s (unknownOpcode op s) :=
  charges_addCycles (t := logMsg (.unknownOpcode op (s.pc - 1)) { s with sawUnknownOpcode := true }) rfl (by decide)

/-- R495, R380: every instruction, its bytes fetched, charges at most 520 cycles. -/
theorem exec_charges {s : State} (h : s.Inv) (i : Instr) : Charges s (exec i s) := by
  cases i with
  -- loads, logic, arithmetic and compares from memory, the address known without a read
  | ldaZp | ldaZpx | ldaAbs | ldaAbx | ldaAby | ldxZp | ldxZpy | ldxAbs | ldxAby | ldyZp | ldyZpx | ldyAbs | ldyAbx
  | andZp | andZpx | andAbs | andAbx | andAby | oraZp | oraZpx | oraAbs | oraAbx | oraAby
  | eorZp | eorZpx | eorAbs | eorAbx | eorAby | adcZp | adcZpx | adcAbs | adcAbx | adcAby
  | sbcZp | sbcZpx | sbcAbs | sbcAbx | sbcAby | cmpZp | cmpZpx | cmpAbs | cmpAbx | cmpAby
  | cpxZp | cpxAbs | cpyZp | cpyAbs | bitZp | bitAbs => exact charges_readMem _ rfl (fun _ _ => rfl)
  -- the same through a zero-page pointer
  | ldaIzx | ldaIzy | andIzx | andIzy | oraIzx | oraIzy | eorIzx | eorIzy | adcIzx | adcIzy | sbcIzx | sbcIzy
  | cmpIzx | cmpIzy => exact charges_readMem _ (zpRead16_cyc _ s) (fun _ _ => rfl)
  -- stores, and the read-modify-write instructions
  | staZp | staZpx | staAbs | staAbx | staAby | stxZp | stxZpy | stxAbs | styZp | styZpx | styAbs =>
    exact charges_writeMem _ rfl _
  | staIzx | staIzy => exact charges_writeMem _ (zpRead16_cyc _ s) _
  | incZp | incZpx | incAbs | incAbx | decZp | decZpx | decAbs | decAbx | aslZp | aslZpx | aslAbs | aslAbx
  | lsrZp | lsrZpx | lsrAbs | lsrAbx | rolZp | rolZpx | rolAbs | rolAbx | rorZp | rorZpx | rorAbs | rorAbx =>
    exact charges_modifyMem _ rfl (fun _ _ => rfl)
  -- registers and flags only
  | ldaImm | ldxImm | ldyImm | andImm | oraImm | eorImm | adcImm | sbcImm | cmpImm | cpxImm | cpyImm =>
    exact charges_immediate _ _ rfl
  | aslAcc | lsrAcc | rolAcc | rorAcc => exact charges_modifyAcc _ rfl
  | tax | tay | txa | tya | tsx | txs | inx | iny | dex | dey
  | clc | sec | cli | sei | clv | cld | sed | nop | brk => exact charges_implied _ rfl
  | bccRel | bcsRel | beqRel | bneRel | bmiRel | bplRel | bvcRel | bvsRel => exact charges_branch _ _ _ s
  -- the stack and the jumps
  | pha | php => exact charges_implied _ (push_cyc h _)
  | pla | plp => exact charges_implied _ (pull_cyc s)
  | rts => exact charges_implied _ (pull16_cyc s)
  | rti => exact charges_implied _ (returnFromInterrupt_cyc s)
  | jsrAbs a => exact charges_implied _ (push16_cyc h _)
  | jmpAbs a => exact charges_implied _ rfl
  | jmpInd a => exact charges_implied _ (eaInd_cyc a s)
  | _ => exact charges_unknownOpcode _ s

/-! ## The orchestrator's moves -/

@[simp] theorem dmcReload_cyc (s : State) : (dmcReload s).cyc = s.cyc := by
  unfold dmcReload
  dsimp only
  split
  · split
    · exact dmcRefill_cyc _
    · rfl
  · rfl

theorem dmcAdvance_cyc (clocks : Rat) (s : State) : (dmcAdvance clocks s).cyc = s.cyc :=
  iterate_keeps dmcTick (fun t => t.cyc = s.cyc) (fun t ht => (dmcReload_cyc t).trans ht) _ _ rfl

theorem dmcOutput_cyc (n : Nat) (clocks : Rat) (s : State) : (dmcOutput n clocks s).2.cyc = s.cyc :=
  sampleLoop_keeps _ _ (fun t : State => t.cyc = s.cyc) (fun t ht => (dmcAdvance_cyc clocks t).trans ht) n s rfl

@[simp] theorem sequencerAdvance_cyc (s : State) : (sequencerAdvance s).cyc = s.cyc := by
  unfold sequencerAdvance
  generalize (if s.apu.seqMode then 4 else 3) = last
  dsimp only
  split
  · split <;> rfl
  · rfl

@[simp] theorem stepFrame_cyc (s : State) : (stepFrame s).cyc = s.cyc := by
  unfold stepFrame stepFrameWith
  dsimp only
  rw [sequencerAdvance_cyc]
  exact dmcOutput_cyc _ _ _

@[simp] theorem flushCounters_cyc (s : State) : (flushCounters s).cyc = s.cyc := by
  unfold flushCounters
  split
  · rfl
  · split <;> rfl

@[simp] theorem endOfFrameFlush_cyc (s : State) : (endOfFrameFlush s).cyc = s.cyc := by
  unfold endOfFrameFlush
  dsimp only
  split
  · split <;> exact flushCounters_cyc s
  · rfl

@[simp] theorem endFrame_cyc (s : State) : (endFrame s).cyc = s.cyc := endOfFrameFlush_cyc _

/-- R458: the end of a line takes the budget from the counter. -/
theorem lineEnd_cyc (s : State) : (lineEnd s).cyc = s.cyc - 114 := by
  have hseq : ∀ b : Bool, (if b then stepFrame (spendBudget s) else spendBudget s).cyc = s.cyc - 114 := by
    intro b
    cases b with
    | false => rfl
    | true => exact stepFrame_cyc _
  unfold lineEnd
  dsimp only
  split
  · exact hseq _
  · exact (endFrame_cyc _).trans (hseq _)

theorem lineTop_cyc (s : State) : (lineTop s).cyc = s.cyc := by
  have hpre : ∀ (n : Nat) (t : State), (preRender n t).cyc = t.cyc := by
    intro n t
    unfold preRender
    dsimp only
    split <;> rfl
  unfold lineTop
  simp only [hookVBlank, hookHBlank, hookPreScanLine, ite_self, renderLine_cyc, hpre]

/-- R453, R480: initialisation resets the counter, and nothing else at a frame's start touches it. -/
theorem startFrame_cyc_le (skip : Bool) (p q : Option Byte) (s : State) : (startFrame skip p q s).cyc ≤ s.cyc := by
  have hinit : (initIfNeeded s).cyc ≤ s.cyc := by
    unfold initIfNeeded
    split
    · exact (doReset_cyc _).trans_le (Nat.zero_le _)
    · exact le_rfl
  exact hinit

theorem handleRequest_cyc_le (r : Request) (s : State) : (handleRequest r s).cyc ≤ s.cyc := by
  cases r with
  | frame p q => exact startFrame_cyc_le false p q s
  | skipFrame p q =>
    dsimp only [handleRequest]
    split
    · exact le_rfl
    · exact startFrame_cyc_le true p q s
  | reset | setParameter payload => exact le_rfl
  | shutdown =>
    dsimp only [handleRequest]
    split <;> exact le_rfl
  | storageResponse payload =>
    dsimp only [handleRequest, storeResponse]
    split <;> exact le_rfl

theorem idleStep_cyc_le (s : State) : (idleStep s).cyc ≤ s.cyc := by
  unfold idleStep
  cases s.io.inbox with
  | nil => exact le_rfl
  | cons r rest =>
    dsimp only
    split
    · exact le_rfl
    · exact handleRequest_cyc_le r _

/-! ## The step -/

/-- R458: an iteration of the loop begins with at most 113 cycles in the counter, and charges a service's 7 and an instruction's 520. -/
theorem cpuStep_cyc_le {s t : State} (h : s.Inv) (hs : s.cyc < 114) (ht : cpuStep (servicePending s) = .next t) :
    t.cyc ≤ 640 := by
  have hservice := servicePending_cyc_le h
  have hfetch := fetchInstr_cyc (servicePending s)
  obtain ⟨t', ht', hexec⟩ := exec_charges (inv_closed.fetchInstr (inv_closed.servicePending h)) (fetchInstr (servicePending s)).1
  obtain rfl : t' = t := by simpa [cpuStep, ht'] using ht
  omega

/-- Settles O29: 113 + 7 + 520 in the CPU's loop, and the orchestrator's moves never raise the counter. -/
theorem cycleCounterBound : Obligations.CycleCounterBound := by
  intro s t h hs ht
  cases hp : s.orch.phase with
  | idle =>
    obtain rfl : idleStep s = t := by simpa [step_of_idle hp] using ht
    exact (idleStep_cyc_le s).trans hs
  | lineStart =>
    obtain rfl : lineTop s = t := by simpa [step_of_lineStart hp] using ht
    exact (lineTop_cyc s).trans_le hs
  | cpu =>
    by_cases hc : s.cyc < Config.lineBudget
    · exact cpuStep_cyc_le h hc ((step_of_budget hp hc).symm.trans ht)
    · obtain rfl : lineEnd s = t := by simpa [step_of_spent hp hc] using ht
      rw [lineEnd_cyc]
      omega

end Sys2Proof.Machine
end

section
/-! PROOFS. What a mapper's `init` installs, and the frame after a reset request (R415, R416, R425, R453, R480, R483). -/

namespace Sys2Proof.Machine

open Sys2Proof.Spec

/-! ## CHR bytes in the pattern memory (R299, R416, R424) -/

theorem Ppu.write_pattern {a : Nat} (h : a < 0x2000) (d : Byte) (p : Ppu) :
    p.write a d = { p with pattern := Memory.write p.pattern a d } := by
  have ha : a % 0x4000 = a := by omega
  simp only [write, ha, if_pos h]

/-- R299: a block write inside the pattern memory changes it alone, and puts each byte in its place. -/
theorem Ppu.writeBlock_pattern {a n : Nat} (h : a + n ≤ 0x2000) (f : Nat → Byte) (p : Ppu) :
    ∃ m, p.writeBlock a n f = { p with pattern := m } ∧
      ∀ o, Memory.read m o = if a ≤ o ∧ o < a + n then f (o - a) else Memory.read p.pattern o := by
  induction n with
  | zero => exact ⟨p.pattern, rfl, fun o => (if_neg (by omega)).symm⟩
  | succ n ih =>
    obtain ⟨m, hm, hread⟩ := ih (by omega)
    have hsucc : p.writeBlock a (n + 1) f = (p.writeBlock a n f).write (a + n) (f n) := by
      simp only [writeBlock, List.range_succ, List.foldl_append, List.foldl_cons, List.foldl_nil]
    refine ⟨Memory.write m (a + n) (f n), by rw [hsucc, hm, write_pattern (by omega)], fun o => ?_⟩
    rw [Memory.read_write, hread]
    by_cases ho : o = a + n
    · rw [if_pos ho, if_pos (by omega), show o - a = n by omega]
    · have hrange : (a ≤ o ∧ o < a + (n + 1)) ↔ (a ≤ o ∧ o < a + n) := by omega
      simp only [if_neg ho, hrange]

theorem pushChr_pattern {a n : Nat} (h : a + n ≤ 0x2000) (base : Nat) (s : State) :
    ∃ m, pushChr a base n s = { s with ppu := { s.ppu with pattern := m } } ∧
      ∀ o, Memory.read m o = if a ≤ o ∧ o < a + n then Memory.read s.cart.chr (base + (o - a)) else Memory.read s.ppu.pattern o := by
  obtain ⟨m, hm, hread⟩ := Ppu.writeBlock_pattern h (fun i => Memory.read s.cart.chr (base + i)) s.ppu
  exact ⟨m, by rw [pushChr, hm], hread⟩

/-! ## The PRG windows (R415, R423) -/

theorem lookup_mapPrg_of_lt {b : Nat} (hb : b < 0x8000) (lo hi : Nat) (s : State) :
    BusMap.lookup (mapPrg lo hi s).busMap b = BusMap.lookup s.busMap b := by
  rw [mapPrg, BusMap.lookup_mapRange (by omega), if_neg (by omega), BusMap.lookup_mapRange (by omega), if_neg (by omega)]

theorem lookup_mapPrg_lo {o : Nat} (ho : o < 0x4000) (lo hi : Nat) (s : State) :
    BusMap.lookup (mapPrg lo hi s).busMap (0x8000 + o) = (prgBank lo, o) := by
  rw [mapPrg, BusMap.lookup_mapRange (by omega), if_neg (by omega), BusMap.lookup_mapRange (by omega), if_pos (by omega),
    Nat.add_sub_cancel_left]

theorem lookup_mapPrg_hi {o : Nat} (ho : o < 0x4000) (lo hi : Nat) (s : State) :
    BusMap.lookup (mapPrg lo hi s).busMap (0xC000 + o) = (prgBank hi, o) := by
  rw [mapPrg, BusMap.lookup_mapRange (by omega), if_pos (by omega), Nat.add_sub_cancel_left]

/-- R79: a read of a PRG window answers the byte of its bank, and changes nothing. -/
theorem memRead_prgBank {s : State} {a : Addr} {k o : Nat} (h : BusMap.lookup s.busMap a.toNat = (prgBank k, o)) :
    memRead a s = (prgByte s.cart k o, s) := by
  simp only [memRead, h, prgBank, deviceRead, prgByte]

theorem showsBanks_mapPrg {t : State} {lo hi : Nat} {s : State} (h : t.busMap = (mapPrg lo hi s).busMap) :
    showsBanks t lo hi := by
  intro o ho
  have hlo : (adr (0x8000 + o)).toNat = 0x8000 + o := by
    rw [adr, BitVec.toNat_ofNat]; omega
  have hhi : (adr (0xC000 + o)).toNat = 0xC000 + o := by
    rw [adr, BitVec.toNat_ofNat]; omega
  constructor
  · rw [peek, memRead_prgBank (by rw [h, hlo]; exact lookup_mapPrg_lo ho lo hi s)]
  · rw [peek, memRead_prgBank (by rw [h, hhi]; exact lookup_mapPrg_hi ho lo hi s)]

/-- R480: with PRG bank `hi` at 0xC000 the CPU starts at the word in that bank's bytes 0x3FFC and 0x3FFD. -/
theorem doReset_mapPrg {t : State} {lo hi : Nat} {s : State} (h : t.busMap = (mapPrg lo hi s).busMap) :
    doReset t = { resetRegisters t with
      pc := adr (256 * (prgByte t.cart hi 0x3FFD).toNat + (prgByte t.cart hi 0x3FFC).toNat) } := by
  have hl : memRead 0xFFFC (resetRegisters t) = (prgByte t.cart hi 0x3FFC, resetRegisters t) :=
    memRead_prgBank (show BusMap.lookup t.busMap (0xC000 + 0x3FFC) = _ by rw [h]; exact lookup_mapPrg_hi (by decide) lo hi s)
  have hh : memRead 0xFFFD (resetRegisters t) = (prgByte t.cart hi 0x3FFD, resetRegisters t) :=
    memRead_prgBank (show BusMap.lookup t.busMap (0xC000 + 0x3FFD) = _ by rw [h]; exact lookup_mapPrg_hi (by decide) lo hi s)
  have hnext : (0xFFFC : Addr) + 1 = 0xFFFD := by decide
  simp only [doReset, memRead16, hl, hnext, hh]
  rw [← toNat_word, adr_toNat]

/-! ## A mapper's `init` (R415, R416, R420, R425) -/

/-- What `init` may install in `s`: the bus table, the mapper's registers and the pattern memory. -/
structure Installs (s : State) (busMap : List BusRange) (mapper : Mapper) (pattern : Memory) : Prop where
  banks : busMap = (mapPrg 0 (s.cart.prgBanks - 1) s).busMap
  chrRam : s.cart.chrBanks = 0 → pattern = s.ppu.pattern
  chrRom : 0 < s.cart.chrBanks → ∀ o, o < 8192 → Memory.read pattern o = Memory.read s.cart.chr o
  mapper0 : s.cart.mapperId = 0 → mapper = s.mapper
  mapper1 : s.cart.mapperId = 1 →
    mapper.mmcShift = 0 ∧ mapper.mmcCount = 0 ∧ mapper.mmcChr0 = 0 ∧ mapper.mmcChr1 = 0 ∧ mapper.mmcPrg = 0 ∧
    mapper.mmcControl = (if s.cart.defaultMirroring = .vertical then 0x0E
      else if s.cart.defaultMirroring = .horizontal then 0x0F else 0x0C)

/-- `t` is `s` after `init`. -/
def Initialised (s t : State) : Prop :=
  ∃ busMap mapper pattern, Installs s busMap mapper pattern ∧
    t = { s with busMap := busMap, mapper := mapper, ppu := { s.ppu with pattern := pattern, mirroring := s.cart.defaultMirroring } }

theorem nromInit_initialised {s : State} (hid : s.cart.mapperId ≠ 1) : Initialised s (nromInit s) := by
  obtain ⟨m, hm, hread⟩ := pushChr_pattern (a := 0) (n := 8192) (by decide) 0 (mapPrg 0 (s.cart.prgBanks - 1) s)
  unfold nromInit
  dsimp only
  split
  · rename_i hchr
    refine ⟨_, s.mapper, m, ⟨rfl, fun h0 => by omega, fun _ o ho => ?_, fun _ => rfl, fun h1 => absurd h1 hid⟩, by rw [hm]; rfl⟩
    rw [hread, if_pos (by omega), Nat.sub_zero, Nat.zero_add]
    rfl
  · exact ⟨_, s.mapper, s.ppu.pattern, ⟨rfl, fun _ => rfl, fun h => by omega, fun _ => rfl, fun h1 => absurd h1 hid⟩, rfl⟩

/-- R425: the mapper's registers after `init`. -/
def mmcInitRegs (m : Mirroring) : Mapper where
  mmcShift := 0
  mmcCount := 0
  mmcControl := 0x0C + mmcInitField m
  mmcChr0 := 0
  mmcChr1 := 0
  mmcPrg := 0

theorem mmcInitRegs_mmcControl (m : Mirroring) :
    (mmcInitRegs m).mmcControl = if m = .vertical then 0x0E else if m = .horizontal then 0x0F else 0x0C := by
  cases m <;> decide

/-- R423: in the PRG mode that `init` sets, the first bank is at 0x8000 and the last at 0xC000. -/
theorem mmcPrgBanks_init {s : State} {m : Mirroring} (h : s.mapper = mmcInitRegs m) : mmcPrgBanks s = (0, s.cart.prgBanks - 1) := by
  have hmode : (mmcPrgMode s).toNat = 3 := by
    rw [mmcPrgMode, h]
    cases m <;> decide
  have hprg : s.mapper.mmcPrg = 0 := by rw [h]; rfl
  simp [mmcPrgBanks, hmode, hprg]

/-- R424: in the CHR mode that `init` sets, the first two 4 KiB units are shown. -/
theorem mmcChrUnits_init {s : State} {m : Mirroring} (h : s.mapper = mmcInitRegs m) (hchr : 0 < s.cart.chrBanks) :
    mmcChrUnits s = (0, 1) := by
  have hmode : mmcChrMode s = false := by
    rw [mmcChrMode, h]
    cases m <;> decide
  have hchr0 : s.mapper.mmcChr0 = 0 := by rw [h]; rfl
  have hone : 1 % (2 * s.cart.chrBanks) = 1 := Nat.mod_eq_of_lt (by omega)
  simp [mmcChrUnits, hmode, hchr0, hone]

/-- R424: with the registers that `init` sets, CHR ROM is shown from its first byte on, and CHR RAM stays. -/
theorem applyChr_init {s : State} {m : Mirroring} (h : s.mapper = mmcInitRegs m) :
    ∃ pattern, applyChr s = { s with ppu := { s.ppu with pattern := pattern } } ∧
      (s.cart.chrBanks = 0 → pattern = s.ppu.pattern) ∧
      (0 < s.cart.chrBanks → ∀ o, o < 8192 → Memory.read pattern o = Memory.read s.cart.chr o) := by
  by_cases hchr : s.cart.chrBanks = 0
  · exact ⟨s.ppu.pattern, if_pos hchr, fun _ => rfl, fun hpos => by omega⟩
  obtain ⟨m0, hm0, hread0⟩ := pushChr_pattern (a := 0) (n := 4096) (by decide) 0 s
  obtain ⟨m1, hm1, hread1⟩ := pushChr_pattern (a := 0x1000) (n := 4096) (by decide) 4096 (pushChr 0 0 4096 s)
  rw [hm0] at hm1 hread1
  refine ⟨m1, ?_, fun h0 => absurd h0 hchr, fun _ o ho => ?_⟩
  · rw [applyChr, if_neg hchr, mmcChrUnits_init h (Nat.pos_of_ne_zero hchr)]
    simpa only [hm0, Nat.mul_zero, Nat.mul_one] using hm1
  · rw [hread1]
    dsimp only
    by_cases hlow : o < 0x1000
    · rw [if_neg (by omega), hread0, if_pos (by omega), Nat.sub_zero, Nat.zero_add]
    · rw [if_pos (by omega), show 4096 + (o - 0x1000) = o by omega]

/-- R425: the registers and the mirroring that mapper 1's `init` sets, before the banks are installed. -/
def withInitRegs (s : State) : State :=
  setMirroring s.cart.defaultMirroring { s with mapper := mmcInitRegs s.cart.defaultMirroring }

theorem mmcInit_eq (s : State) : mmcInit s = applyChr (mapPrg 0 (s.cart.prgBanks - 1) (withInitRegs s)) := by
  have hbanks : mmcPrgBanks (withInitRegs s) = (0, s.cart.prgBanks - 1) := mmcPrgBanks_init rfl
  show applyChr (applyPrg (withInitRegs s)) = _
  rw [applyPrg, hbanks]

theorem mmcInit_initialised {s : State} (hid : s.cart.mapperId = 1) : Initialised s (mmcInit s) := by
  obtain ⟨pattern, hpattern, hram, hrom⟩ := applyChr_init (s := mapPrg 0 (s.cart.prgBanks - 1) (withInitRegs s)) rfl
  refine ⟨_, mmcInitRegs s.cart.defaultMirroring, pattern, ⟨rfl, hram, hrom, fun h0 => by omega, fun _ => ?_⟩, ?_⟩
  · exact ⟨rfl, rfl, rfl, rfl, rfl, mmcInitRegs_mmcControl _⟩
  · rw [mmcInit_eq, hpattern]
    rfl

theorem mapperInit_initialised (k : InitKind) (p : Option (List Byte)) (s : State) : Initialised s (mapperInit k p s) := by
  unfold mapperInit
  split
  · exact mmcInit_initialised ‹_›
  · exact nromInit_initialised ‹_›

/-! ## The frame after a reset request -/

/-- R453, R483: `Init(reset)` is the mapper's `init`, then the CPU's reset at the word in the last PRG bank. -/
theorem initCore_reset (s : State) : ∃ busMap mapper pattern, Installs s busMap mapper pattern ∧
    initCore .reset s = { resetRegisters s with
      pc := adr (256 * (prgByte s.cart (s.cart.prgBanks - 1) 0x3FFD).toNat +
        (prgByte s.cart (s.cart.prgBanks - 1) 0x3FFC).toNat)
      busMap := busMap, mapper := mapper
      ppu := { s.ppu with pattern := pattern, mirroring := s.cart.defaultMirroring }
      orch := { s.orch with needInit := false } } := by
  obtain ⟨busMap, mapper, pattern, hinst, ht⟩ := mapperInit_initialised .reset s.orch.param s
  refine ⟨busMap, mapper, pattern, hinst, ?_⟩
  have hbus : (mapperInit .reset s.orch.param s).busMap = (mapPrg 0 (s.cart.prgBanks - 1) s).busMap := by
    rw [ht]; exact hinst.banks
  unfold initCore
  dsimp only
  rw [doReset_mapPrg hbus, ht]
  rfl

/-- R453: a frame's start runs `Init(reset)` when the host has asked for a reset. -/
theorem initIfNeeded_of_reset {s : State} (hneed : s.orch.needInit = true) (hkind : s.orch.initKind = .reset) :
    initIfNeeded s = initCore .reset s := by
  rw [initIfNeeded, if_pos hneed, hkind]

/-- R450: a running core acts on the oldest request of the inbox. -/
theorem idleStep_of_cons {s : State} {r : Request} {rest : List Request} (hin : s.io.inbox = r :: rest)
    (hrun : s.orch.halted = false) : idleStep s = handleRequest r { s with io := { s.io with inbox := rest } } := by
  simp [idleStep, hin, hrun]

/-- Settles O59: both requests start a frame, whose `Init(reset)` is `initCore_reset`; an honoured skip-frame counts. -/
theorem resetRequestFrame : Obligations.ResetRequestFrame := by
  intro skip s p q rest _ hidle hrun hneed hkind hin hskip
  obtain ⟨busMap, mapper, pattern, hinst, hinit⟩ := initCore_reset { s with io := { s.io with inbox := rest } }
  refine ⟨busMap, mapper, pattern, ?_, showsBanks_mapPrg hinst.banks, fun b hb => ?_, hinst.chrRam, hinst.chrRom,
    hinst.mapper0, hinst.mapper1⟩
  · have hframe := (initIfNeeded_of_reset (s := { s with io := { s.io with inbox := rest } }) hneed hkind).trans hinit
    cases skip with
    | false =>
      have hstart : idleStep s = startFrame false p q _ := idleStep_of_cons hin hrun
      rw [step_of_idle hidle, hstart, startFrame, hframe]
      rfl
    | true =>
      have hcap : s.orch.skipRun ≠ Config.skipCap := (hskip rfl).ne
      have hstart : idleStep s = countSkip (startFrame true p q _) := (idleStep_of_cons hin hrun).trans (if_neg hcap)
      rw [step_of_idle hidle, hstart, startFrame, hframe]
      rfl
  · rw [hinst.banks]
    exact lookup_mapPrg_of_lt hb _ _ _

end Sys2Proof.Machine
end

section
/-! PROOFS. What a bus write does to work RAM, the save buffer and the open device, and what no bus write changes (R71 to R78). -/

namespace Sys2Proof.Machine

open Sys2Proof.Spec

/-! ## What no bus write changes -/

/-- Settles O38: the fields outside the statement's list are those that `memWrite` leaves alone, field by field. -/
theorem busWriteFrame : Obligations.BusWriteFrame := by
  intro a d s
  refine ⟨(memWrite a d s).pending, (memWrite a d s).cyc, (memWrite a d s).wram, (memWrite a d s).saveRam,
    (memWrite a d s).saveDirty, (memWrite a d s).busMap, (memWrite a d s).mapper, (memWrite a d s).ppu, (memWrite a d s).apu,
    (memWrite a d s).pads, ?_⟩
  rw [← memWrite_a a d s, ← memWrite_x a d s, ← memWrite_y a d s, ← memWrite_sp a d s, ← memWrite_p a d s, ← memWrite_pc a d s,
    ← memWrite_sawUnknownOpcode a d s, ← memWrite_cart a d s, ← memWrite_orch a d s, ← memWrite_io a d s]

/-! ## An access by the device that owns the address -/

section
variable {s : State} {a : Addr} {n : Nat}

theorem memWrite_of_wram (h : BusMap.lookup s.busMap a.toNat = (.wram, n)) (d : Byte) :
    memWrite a d s = { s with wram := Memory.write s.wram (n % 2048) d } := by
  simp only [memWrite, h, deviceWrite]

theorem memWrite_of_saveRam (h : BusMap.lookup s.busMap a.toNat = (.saveRam, n)) (d : Byte) :
    memWrite a d s = { s with saveRam := Memory.write s.saveRam (n % 8192) d, saveDirty := s.saveDirty + 1 } := by
  simp only [memWrite, h, deviceWrite]

theorem memWrite_of_openDev (h : BusMap.lookup s.busMap a.toNat = (.openDev, n)) (d : Byte) : memWrite a d s = s := by
  simp only [memWrite, h, deviceWrite]

/-- R420: mapper 0 ignores every write. -/
theorem memWrite_of_prg {base : Nat} (h : BusMap.lookup s.busMap a.toNat = (.prg base, n)) (hid : s.cart.mapperId = 0)
    (d : Byte) : memWrite a d s = s := by
  simp [memWrite, h, deviceWrite, mapperWrite, hid]

theorem peek_of_wram (h : BusMap.lookup s.busMap a.toNat = (.wram, n)) : peek s a = Memory.read s.wram (n % 2048) := by
  simp only [peek, memRead, h, deviceRead]

theorem peek_of_saveRam (h : BusMap.lookup s.busMap a.toNat = (.saveRam, n)) : peek s a = Memory.read s.saveRam (n % 8192) := by
  simp only [peek, memRead, h, deviceRead]

theorem peek_of_openDev (h : BusMap.lookup s.busMap a.toNat = (.openDev, n)) : peek s a = 0 := by
  simp only [peek, memRead, h, deviceRead]

end

/-! ## The mirrors of a cell (R74, R78) -/

section
variable {s : State} {a b : Addr} {n : Nat}

theorem cell_eq_wram {i k : Nat} : cell s i = (.wram, k) ↔
    (BusMap.lookup s.busMap i).1 = .wram ∧ (BusMap.lookup s.busMap i).2 % 2048 = k := by
  unfold cell
  obtain ⟨dev, m⟩ := BusMap.lookup s.busMap i
  cases dev <;> simp

theorem cell_eq_saveRam {i k : Nat} : cell s i = (.saveRam, k) ↔
    (BusMap.lookup s.busMap i).1 = .saveRam ∧ (BusMap.lookup s.busMap i).2 % 8192 = k := by
  unfold cell
  obtain ⟨dev, m⟩ := BusMap.lookup s.busMap i
  cases dev <;> simp

/-- R74: a byte written to work RAM is read back at the mirrors of its cell, and every other plain address reads as before. -/
theorem peek_memWrite_wram (h : BusMap.lookup s.busMap a.toNat = (.wram, n)) (hb : plain s b) (d : Byte) :
    peek (memWrite a d s) b = if (BusMap.lookup s.busMap b.toNat).1 = .wram ∧
      (BusMap.lookup s.busMap b.toNat).2 % 2048 = n % 2048 then d else peek s b := by
  rw [memWrite_of_wram h]
  split
  · rename_i hc
    obtain ⟨hdev, hoff⟩ := hc
    refine Eq.trans (peek_of_wram (Prod.ext hdev rfl)) ?_
    rw [hoff]
    exact Memory.read_write_self _ _ _
  · rename_i hne
    exact peek_write_wram hb (fun hc => hne (cell_eq_wram.1 hc)) d

/-- R78: the same for the save buffer. -/
theorem peek_memWrite_saveRam (h : BusMap.lookup s.busMap a.toNat = (.saveRam, n)) (hb : plain s b) (d : Byte) :
    peek (memWrite a d s) b = if (BusMap.lookup s.busMap b.toNat).1 = .saveRam ∧
      (BusMap.lookup s.busMap b.toNat).2 % 8192 = n % 8192 then d else peek s b := by
  rw [memWrite_of_saveRam h]
  split
  · rename_i hc
    obtain ⟨hdev, hoff⟩ := hc
    refine Eq.trans (peek_of_saveRam (Prod.ext hdev rfl)) ?_
    rw [hoff]
    exact Memory.read_write_self _ _ _
  · rename_i hne
    exact peek_write_saveRam hb (fun hc => hne (cell_eq_saveRam.1 hc)) d _

end

/-- Settles O40: by the device that the address written belongs to. -/
theorem storeFrame : Obligations.StoreFrame := by
  intro a d s b _ hb
  exact ⟨fun h => peek_memWrite_wram (Prod.ext h rfl) hb d, fun h => peek_memWrite_saveRam (Prod.ext h rfl) hb d,
    fun h => memWrite_of_openDev (Prod.ext h rfl) d, fun _ h hid => memWrite_of_prg (Prod.ext h rfl) hid d⟩

/-! ## The fixed windows below 0x8000 (R73, R74, R77, R78) -/

theorem adr_toNat_of_lt {n : Nat} (h : n < 0x10000) : (adr n).toNat = n := by
  rw [adr, BitVec.toNat_ofNat, Nat.mod_eq_of_lt h]

section
variable {s : State} {a : Nat}

theorem lookup_saveWindow (h : s.Inv) (h1 : 0x6000 ≤ a) (h2 : a < 0x8000) (hbat : s.cart.battery = true) :
    BusMap.lookup s.busMap a = (.saveRam, a - 0x6000) := by
  have hlow : ¬ a ≤ 0x1FFF ∧ ¬ a ≤ 0x3FFF ∧ ¬ a ≤ 0x401F ∧ ¬ a ≤ 0x5FFF ∧ a ≤ 0x7FFF := by omega
  rw [h.bus.windows a h2, hbat]
  simp [BusMap.fixedWindows, BusMap.lookup, BusMap.holds, hlow, h1]

theorem lookup_openDev (h : s.Inv)
    (ha : (0x4020 ≤ a ∧ a < 0x6000) ∨ (0x6000 ≤ a ∧ a < 0x8000 ∧ s.cart.battery = false)) :
    ∃ n, BusMap.lookup s.busMap a = (.openDev, n) := by
  have hlow : ¬ a ≤ 0x1FFF ∧ ¬ a ≤ 0x3FFF ∧ ¬ a ≤ 0x401F := by omega
  rw [h.bus.windows a (by omega)]
  rcases ha with ⟨h1, h2⟩ | ⟨h1, h2, hbat⟩
  · have hin : a ≤ 0x5FFF := by omega
    exact ⟨a - 0x4020, by simp [BusMap.fixedWindows, BusMap.lookup, BusMap.holds, hlow, h1, hin]⟩
  · have hin : ¬ a ≤ 0x5FFF ∧ a ≤ 0x7FFF := by omega
    exact ⟨a - 0x6000, by simp [BusMap.fixedWindows, BusMap.lookup, BusMap.holds, hlow, h1, hin, hbat]⟩

end

theorem plain_of_lookup {s : State} {a : Addr} {dev : Device} {n : Nat} (h : BusMap.lookup s.busMap a.toNat = (dev, n))
    (hppu : dev ≠ .ppuPorts) (hapu : dev ≠ .apuIo) : plain s a := by
  simp only [plain, h]
  exact ⟨hppu, hapu⟩

/-- Settles O42: the fixed windows give the device and the cell of each address, and the write shows at the mirrors of its cell. -/
theorem ramWindows : Obligations.RamWindows := by
  intro s d h
  refine ⟨fun a b ha hb => ?_, fun a b ha ha' hb hb' hbat => ?_, fun a ha => ?_⟩
  · have hla : BusMap.lookup s.busMap (adr a).toNat = (.wram, a) := by rw [adr_toNat_of_lt (by omega), lookup_wram h ha]
    have hlb : BusMap.lookup s.busMap (adr b).toNat = (.wram, b) := by rw [adr_toNat_of_lt (by omega), lookup_wram h hb]
    rw [peek_memWrite_wram hla (plain_of_lookup hlb (by decide) (by decide)), peek_of_wram hlb, hlb]
    simp only [true_and, eq_comm (a := b % 2048)]
  · have hla : BusMap.lookup s.busMap (adr a).toNat = (.saveRam, a - 0x6000) := by
      rw [adr_toNat_of_lt (by omega), lookup_saveWindow h ha ha' hbat]
    have hlb : BusMap.lookup s.busMap (adr b).toNat = (.saveRam, b - 0x6000) := by
      rw [adr_toNat_of_lt (by omega), lookup_saveWindow h hb hb' hbat]
    have hsame : (b - 0x6000) % 8192 = (a - 0x6000) % 8192 ↔ a = b := by omega
    have hoff : (b - 0x6000) % 8192 = b - 0x6000 := by omega
    constructor
    · rw [peek_memWrite_saveRam hla (plain_of_lookup hlb (by decide) (by decide)), peek_of_saveRam hlb, hlb]
      simp only [true_and, hsame]
      rw [hoff]
    · rw [memWrite_of_saveRam hla]
  · obtain ⟨n, hl⟩ := lookup_openDev h ha
    rw [← adr_toNat_of_lt (n := a) (by omega)] at hl
    exact ⟨peek_of_openDev hl, memWrite_of_openDev hl d⟩

end Sys2Proof.Machine
end

section
/-! PROOFS. Nothing clears the sticky mark or changes the cartridge, and only a logged unknown opcode sets the mark (R79, R236). -/

namespace Sys2Proof.Machine

/-- The cartridge and the sticky mark. -/
def sticky (s : State) : Cart × Bool := (s.cart, s.sawUnknownOpcode)

/-- What only an unknown opcode changes inside the CPU's loop: the sticky mark, with it the host boundary, and the cartridge. -/
def marks (s : State) : (Cart × Bool) × HostIo := (sticky s, s.io)

/-! ## The bus, the stack and the interrupt check -/

section
variable (a : Addr) (d : Byte) (s : State)

theorem marks_memRead : marks (memRead a s).2 = marks s := by simp [marks, sticky]
theorem marks_memWrite : marks (memWrite a d s) = marks s := by simp [marks, sticky]
theorem marks_zpRead16 : marks (zpRead16 d s).2 = marks s := by simp [marks, sticky]
theorem marks_memRead16 : marks (memRead16 a s).2 = marks s := by simp [marks, sticky]
theorem marks_push : marks (push d s) = marks s := by simp [marks, sticky]
theorem marks_pull : marks (pull s).2 = marks s := by simp [marks, sticky]
theorem marks_push16 : marks (push16 a s) = marks s := by simp [marks, sticky]
theorem marks_pull16 : marks (pull16 s).2 = marks s := by simp [marks, sticky]
theorem marks_fetch8 : marks (fetch8 s).2 = marks s := by simp [marks, sticky]
theorem marks_eaInd : marks (eaInd a s).2 = marks s := (marks_memRead _ _).trans (marks_memRead a s)
theorem marks_returnFromInterrupt : marks (returnFromInterrupt s) = marks s := (marks_pull16 _).trans (marks_pull s)
theorem marks_doReset : marks (doReset s) = marks s := marks_memRead16 0xFFFC (resetRegisters s)

theorem marks_service (k : Tag) : marks (service k s) = marks s := by
  have hread := marks_memRead16 (vectorOf k) (setI true (push (pushedStatus k (push16 s.pc s).p) (push16 s.pc s)))
  exact hread.trans ((marks_push _ _).trans (marks_push16 _ s))

theorem marks_servicePending : marks (servicePending s) = marks s := by
  unfold servicePending
  cases s.pending with
  | none => rfl
  | reset => exact marks_doReset s
  | nmi => exact marks_service s _
  | irq | brk =>
    dsimp only
    split
    · rfl
    · exact marks_service s _

theorem marks_fetchInstr : marks (fetchInstr s).2 = marks s := by
  unfold fetchInstr
  dsimp only
  split <;> simp only [marks_fetch8]

end

/-! ## An instruction -/

/-- The instruction completes and leaves the marks alone. -/
def Unmarked (s : State) (r : Result) : Prop := ∃ t, r = .next t ∧ marks t = marks s

theorem unmarked_readMem (op : Byte) {s : State} {e : Ea × State} (he : marks e.2 = marks s) {f : Byte → State → State}
    (hf : ∀ m t, marks (f m t) = marks t) : Unmarked s (.next (readMem op e f)) :=
  ⟨_, rfl, (hf _ _).trans ((marks_memRead _ _).trans he)⟩

theorem unmarked_writeMem (op : Byte) {s : State} {e : Ea × State} (he : marks e.2 = marks s) (v : State → Byte) :
    Unmarked s (.next (writeMem op e v)) :=
  ⟨_, rfl, (marks_memWrite _ _ _).trans he⟩

theorem unmarked_modifyMem (op : Byte) {s : State} {e : Ea × State} (he : marks e.2 = marks s)
    {f : Byte → State → Byte × State} (hf : ∀ m t, marks (f m t).2 = marks t) : Unmarked s (.next (modifyMem op e f)) :=
  ⟨_, rfl, (marks_memWrite _ _ _).trans ((hf _ _).trans ((marks_memRead _ _).trans he))⟩

theorem unmarked_branch (op d : Byte) (c : Bool) (s : State) : Unmarked s (.next (branch op d c s)) := by
  refine ⟨_, rfl, ?_⟩
  unfold branch
  cases c <;> rfl

/-- R236: an instruction leaves the marks alone, or it is an unknown opcode. -/
theorem exec_unmarked_or_unknown (i : Instr) (s : State) : Unmarked s (exec i s) ∨ ∃ op, exec i s = unknownOpcode op s := by
  cases i with
  -- loads, logic, arithmetic and compares from memory, the address known without a read
  | ldaZp | ldaZpx | ldaAbs | ldaAbx | ldaAby | ldxZp | ldxZpy | ldxAbs | ldxAby | ldyZp | ldyZpx | ldyAbs | ldyAbx
  | andZp | andZpx | andAbs | andAbx | andAby | oraZp | oraZpx | oraAbs | oraAbx | oraAby
  | eorZp | eorZpx | eorAbs | eorAbx | eorAby | adcZp | adcZpx | adcAbs | adcAbx | adcAby
  | sbcZp | sbcZpx | sbcAbs | sbcAbx | sbcAby | cmpZp | cmpZpx | cmpAbs | cmpAbx | cmpAby
  | cpxZp | cpxAbs | cpyZp | cpyAbs | bitZp | bitAbs => exact .inl (unmarked_readMem _ rfl (fun _ _ => rfl))
  -- the same through a zero-page pointer
  | ldaIzx | ldaIzy | andIzx | andIzy | oraIzx | oraIzy | eorIzx | eorIzy | adcIzx | adcIzy | sbcIzx | sbcIzy
  | cmpIzx | cmpIzy => exact .inl (unmarked_readMem _ (marks_zpRead16 _ s) (fun _ _ => rfl))
  -- stores, and the read-modify-write instructions
  | staZp | staZpx | staAbs | staAbx | staAby | stxZp | stxZpy | stxAbs | styZp | styZpx | styAbs =>
    exact .inl (unmarked_writeMem _ rfl _)
  | staIzx | staIzy => exact .inl (unmarked_writeMem _ (marks_zpRead16 _ s) _)
  | incZp | incZpx | incAbs | incAbx | decZp | decZpx | decAbs | decAbx | aslZp | aslZpx | aslAbs | aslAbx
  | lsrZp | lsrZpx | lsrAbs | lsrAbx | rolZp | rolZpx | rolAbs | rolAbx | rorZp | rorZpx | rorAbs | rorAbx =>
    exact .inl (unmarked_modifyMem _ rfl (fun _ _ => rfl))
  -- registers and flags only
  | ldaImm | ldxImm | ldyImm | andImm | oraImm | eorImm | adcImm | sbcImm | cmpImm | cpxImm | cpyImm
  | aslAcc | lsrAcc | rolAcc | rorAcc | tax | tay | txa | tya | tsx | txs | inx | iny | dex | dey
  | clc | sec | cli | sei | clv | cld | sed | nop | brk | jmpAbs => exact .inl ⟨_, rfl, rfl⟩
  | bccRel | bcsRel | beqRel | bneRel | bmiRel | bplRel | bvcRel | bvsRel => exact .inl (unmarked_branch _ _ _ s)
  -- the stack, and the jump's pointer
  | pha | php => exact .inl ⟨_, rfl, marks_push _ s⟩
  | pla | plp => exact .inl ⟨_, rfl, marks_pull s⟩
  | jsrAbs => exact .inl ⟨_, rfl, marks_push16 _ s⟩
  | rts => exact .inl ⟨_, rfl, marks_pull16 s⟩
  | rti => exact .inl ⟨_, rfl, marks_returnFromInterrupt s⟩
  | jmpInd a => exact .inl ⟨_, rfl, marks_eaInd a s⟩
  | _ => exact .inr ⟨_, rfl⟩

/-! ## The orchestrator's moves -/

section
variable (s : State)

theorem sticky_dmcRefill : sticky (dmcRefill s) = sticky s := by simp [sticky]

theorem sticky_dmcReload : sticky (dmcReload s) = sticky s := by
  unfold dmcReload
  dsimp only
  split
  · split
    · exact sticky_dmcRefill _
    · rfl
  · rfl

theorem sticky_dmcAdvance (clocks : Rat) : sticky (dmcAdvance clocks s) = sticky s :=
  iterate_keeps dmcTick (fun t => sticky t = sticky s) (fun t ht => (sticky_dmcReload t).trans ht) _ _ rfl

theorem sticky_dmcOutput (n : Nat) (clocks : Rat) : sticky (dmcOutput n clocks s).2 = sticky s :=
  sampleLoop_keeps _ _ (fun t : State => sticky t = sticky s) (fun t ht => (sticky_dmcAdvance t clocks).trans ht) n s rfl

theorem sticky_sequencerAdvance : sticky (sequencerAdvance s) = sticky s := by
  unfold sequencerAdvance
  generalize (if s.apu.seqMode then 4 else 3) = last
  dsimp only
  split
  · split <;> rfl
  · rfl

theorem sticky_stepFrame : sticky (stepFrame s) = sticky s := by
  unfold stepFrame stepFrameWith
  dsimp only
  rw [sticky_sequencerAdvance]
  exact sticky_dmcOutput _ _ _

theorem sticky_endOfFrameFlush : sticky (endOfFrameFlush s) = sticky s := by
  have hcounters : sticky (flushCounters s) = sticky s := by
    unfold flushCounters
    split
    · rfl
    · split <;> rfl
  unfold endOfFrameFlush
  dsimp only
  split
  · split <;> exact hcounters
  · rfl

theorem sticky_lineEnd : sticky (lineEnd s) = sticky s := by
  have hseq : ∀ b : Bool, sticky (if b then stepFrame (spendBudget s) else spendBudget s) = sticky s := by
    intro b
    cases b with
    | false => rfl
    | true => exact sticky_stepFrame _
  unfold lineEnd
  dsimp only
  split
  · exact hseq _
  · exact (sticky_endOfFrameFlush _).trans (hseq _)

theorem sticky_lineTop : sticky (lineTop s) = sticky s := by
  have hpre : ∀ (n : Nat) (t : State), sticky (preRender n t) = sticky t := by
    intro n t
    unfold preRender
    dsimp only
    split <;> rfl
  unfold lineTop
  simp only [hookVBlank, hookHBlank, hookPreScanLine, ite_self]
  exact hpre _ s

/-- R470: a failed load is logged, with the mark as it was. -/
theorem sticky_loadSave : sticky (loadSave s) = sticky s := by
  unfold loadSave
  split
  · split <;> rfl
  · rfl

theorem sticky_mapperInit (k : InitKind) (p : Option (List Byte)) : sticky (mapperInit k p s) = sticky s := by
  obtain ⟨_, _, _, _, h⟩ := mapperInit_initialised k p s
  rw [h]
  rfl

theorem sticky_doReset : sticky (doReset s) = sticky s := congrArg Prod.fst (marks_doReset s)

/-- R453, R236: `Init` keeps the sticky mark (log entry 24). -/
theorem sticky_initCore (k : InitKind) : sticky (initCore k s) = sticky s := by
  have hinit : ∀ (p : Option (List Byte)) (t : State), sticky (doReset (mapperInit k p t)) = sticky t :=
    fun p t => (sticky_doReset _).trans (sticky_mapperInit t k p)
  cases k with
  | power => exact (hinit _ _).trans (sticky_loadSave (powerOnState s))
  | reset => exact hinit _ s

theorem sticky_startFrame (skip : Bool) (p q : Option Byte) : sticky (startFrame skip p q s) = sticky s := by
  have hinit : sticky (initIfNeeded s) = sticky s := by
    unfold initIfNeeded
    split
    · exact sticky_initCore s _
    · rfl
  exact hinit

theorem sticky_handleRequest (r : Request) : sticky (handleRequest r s) = sticky s := by
  cases r with
  | frame p q => exact sticky_startFrame s false p q
  | skipFrame p q =>
    dsimp only [handleRequest]
    split
    · rfl
    · exact sticky_startFrame s true p q
  | reset | setParameter payload => rfl
  | shutdown =>
    dsimp only [handleRequest]
    split <;> rfl
  | storageResponse payload =>
    dsimp only [handleRequest, storeResponse]
    split <;> rfl

theorem sticky_idleStep : sticky (idleStep s) = sticky s := by
  unfold idleStep
  cases s.io.inbox with
  | nil => rfl
  | cons r rest =>
    dsimp only
    split
    · rfl
    · exact sticky_handleRequest { s with io := { s.io with inbox := rest } } r

end

/-! ## The step -/

/-- R236: a step keeps the cartridge and the mark, or it sets the mark and logs one unknown opcode. -/
theorem step_sticky_or_unknown {s t : State} (ht : step s = .next t) : sticky t = sticky s ∨
    (sticky t = (s.cart, true) ∧ ∃ op pc, t.io.log = s.io.log ++ [.unknownOpcode op pc]) := by
  cases hp : s.orch.phase with
  | idle =>
    obtain rfl : idleStep s = t := by simpa [step_of_idle hp] using ht
    exact .inl (sticky_idleStep s)
  | lineStart =>
    obtain rfl : lineTop s = t := by simpa [step_of_lineStart hp] using ht
    exact .inl (sticky_lineTop s)
  | cpu =>
    by_cases hc : s.cyc < Config.lineBudget
    · have hfetched : marks (fetchInstr (servicePending s)).2 = marks s :=
        (marks_fetchInstr _).trans (marks_servicePending s)
      rw [step_of_budget hp hc, cpuStep] at ht
      generalize fetchInstr (servicePending s) = r at ht hfetched
      obtain ⟨i, u⟩ := r
      obtain ⟨hcart, hio⟩ : u.cart = s.cart ∧ u.io = s.io :=
        ⟨congrArg (fun m => m.1.1) hfetched, congrArg Prod.snd hfetched⟩
      rcases exec_unmarked_or_unknown i u with ⟨t', ht', hmarks⟩ | ⟨op, hexec⟩
      · obtain rfl : t' = t := by simpa [ht'] using ht
        exact .inl (congrArg Prod.fst (hmarks.trans hfetched))
      · obtain rfl : addCycles Config.unknownOpcodeCycles
            (logMsg (.unknownOpcode op (u.pc - 1)) { u with sawUnknownOpcode := true }) = t := by
          simpa [hexec, unknownOpcode, Config.unknownOpcodePolicy] using ht
        exact .inr ⟨congrArg (·, true) hcart, op, u.pc - 1, congrArg (HostIo.log · ++ _) hio⟩
    · obtain rfl : lineEnd s = t := by simpa [step_of_spent hp hc] using ht
      exact .inl (sticky_lineEnd s)

/-- Settles O30: in either case of a step the mark is not cleared, and it is newly set only in the second. -/
theorem stickyMarkAndRom : Obligations.StickyMarkAndRom := by
  intro s t ht
  rcases step_sticky_or_unknown ht with h | ⟨h, hlog⟩
  · obtain ⟨hcart, hsaw⟩ := Prod.ext_iff.1 h
    exact ⟨hcart, fun hs => hsaw.trans hs, fun ht => .inl (hsaw.symm.trans ht)⟩
  · obtain ⟨hcart, hsaw⟩ := Prod.ext_iff.1 h
    exact ⟨hcart, fun _ => hsaw, fun _ => .inr hlog⟩

end Sys2Proof.Machine
end

section
/-! PROOFS. The bit fields as numbers, and the ports of the PPU (R75, R300 to R306, R309). -/

namespace Sys2Proof.Machine

open Sys2Proof.Spec

/-! ## Bit fields as numbers -/

/-- A field written: the bits above it, the field, the bits below it. -/
theorem toNat_setField {n k : Nat} (v : BitVec n) (lo : Nat) (f : BitVec k) (h : lo + k ≤ n) :
    (setField v lo f).toNat = 2 ^ (lo + k) * (v.toNat / 2 ^ (lo + k)) + (2 ^ lo * f.toNat + v.toNat % 2 ^ lo) := by
  have hlo : v.toNat % 2 ^ lo < 2 ^ lo := Nat.mod_lt _ (Nat.two_pow_pos lo)
  have hfield : 2 ^ lo * f.toNat + v.toNat % 2 ^ lo < 2 ^ (lo + k) :=
    calc 2 ^ lo * f.toNat + v.toNat % 2 ^ lo < 2 ^ lo * (f.toNat + 1) := by rw [Nat.mul_succ]; omega
      _ ≤ 2 ^ lo * 2 ^ k := Nat.mul_le_mul_left _ f.isLt
      _ = 2 ^ (lo + k) := (Nat.pow_add ..).symm
  refine Nat.eq_of_testBit_eq fun j => ?_
  rw [Nat.testBit_two_pow_mul_add _ hfield, Nat.testBit_two_pow_mul_add _ hlo, Nat.testBit_div_two_pow, Nat.testBit_mod_two_pow]
  simp only [BitVec.testBit_toNat]
  by_cases hj : j < n
  · rw [getLsbD_setField v lo f j hj]
    by_cases h1 : j < lo
    · simp [h1, Nat.lt_add_right k h1]
    · by_cases h2 : j < lo + k
      · simp [h1, h2, Nat.le_of_not_lt h1]
      · simp [h2, Nat.sub_add_cancel (Nat.le_of_not_lt h2)]
  · have h2 : ¬ j < lo + k := by omega
    simp only [h2, if_false, Nat.sub_add_cancel (Nat.le_of_not_lt h2)]
    rw [BitVec.getLsbD_of_ge _ _ (Nat.le_of_not_lt hj), BitVec.getLsbD_of_ge _ _ (Nat.le_of_not_lt hj)]

theorem toNat_setBit {n : Nat} (v : BitVec n) (i : Nat) (b : Bool) (h : i < n) :
    (setBit v i b).toNat = 2 ^ (i + 1) * (v.toNat / 2 ^ (i + 1)) + (2 ^ i * b.toNat + v.toNat % 2 ^ i) := by
  rw [setBit, toNat_setField v i _ h, BitVec.toNat_ofBool]

theorem toNat_extractLsb' {n : Nat} (v : BitVec n) (lo k : Nat) : (v.extractLsb' lo k).toNat = v.toNat / 2 ^ lo % 2 ^ k := by
  rw [BitVec.extractLsb'_toNat, Nat.shiftRight_eq_div_pow]

/-- A field read, as the number above its low end cut to its width. -/
theorem extractLsb'_eq_ofNat {n : Nat} (v : BitVec n) (lo k : Nat) :
    v.extractLsb' lo k = BitVec.ofNat k (v.toNat / 2 ^ lo % 2 ^ k) := by
  apply BitVec.eq_of_toNat_eq
  rw [toNat_extractLsb', BitVec.toNat_ofNat, Nat.mod_mod]

/-! ## The scroll and address registers (R300, R305, R306) -/

section
variable (d : Byte) (p : Ppu)

theorem Ppu.writeControl_eq : p.writeControl d = { p with
    ppuCtrl := d, t := BitVec.ofNat 15 (4096 * (p.t.toNat / 4096) + 1024 * (d.toNat % 4) + p.t.toNat % 1024) } := by
  have ht : setField p.t 10 (d.extractLsb' 0 2) =
      BitVec.ofNat 15 (4096 * (p.t.toNat / 4096) + 1024 * (d.toNat % 4) + p.t.toNat % 1024) := by
    apply BitVec.eq_of_toNat_eq
    rw [toNat_setField _ _ _ (by decide), toNat_extractLsb', BitVec.toNat_ofNat]
    omega
  rw [writeControl, ht]

theorem Ppu.writeScroll_eq : p.writeScroll d =
    if p.w then { p with
      t := BitVec.ofNat 15 (4096 * (d.toNat % 8) + 1024 * (p.t.toNat / 1024 % 4) + 32 * (d.toNat / 8) + p.t.toNat % 32), w := false }
    else { p with t := BitVec.ofNat 15 (32 * (p.t.toNat / 32) + d.toNat / 8), x := BitVec.ofNat 3 (d.toNat % 8), w := true } := by
  have hsecond : setField (setField p.t 12 (d.extractLsb' 0 3)) 5 (d.extractLsb' 3 5) =
      BitVec.ofNat 15 (4096 * (d.toNat % 8) + 1024 * (p.t.toNat / 1024 % 4) + 32 * (d.toNat / 8) + p.t.toNat % 32) := by
    have hfine : (setField p.t 12 (d.extractLsb' 0 3)).toNat = 4096 * (d.toNat % 8) + p.t.toNat % 4096 := by
      rw [toNat_setField _ _ _ (by decide), toNat_extractLsb']
      omega
    have hfield : d.toNat / 8 % 32 = d.toNat / 8 := by omega
    apply BitVec.eq_of_toNat_eq
    rw [toNat_setField _ _ _ (by decide), hfine, toNat_extractLsb', BitVec.toNat_ofNat, Nat.mod_eq_of_lt (b := 2 ^ 15) (by omega)]
    omega
  have hfirst : setField p.t 0 (d.extractLsb' 3 5) = BitVec.ofNat 15 (32 * (p.t.toNat / 32) + d.toNat / 8) := by
    apply BitVec.eq_of_toNat_eq
    rw [toNat_setField _ _ _ (by decide), toNat_extractLsb', BitVec.toNat_ofNat]
    omega
  have hx : d.extractLsb' 0 3 = BitVec.ofNat 3 (d.toNat % 8) := by simp [extractLsb'_eq_ofNat]
  rw [writeScroll, hsecond, hfirst, hx]

theorem Ppu.writeAddress_eq : p.writeAddress d =
    if p.w then { p with
      t := BitVec.ofNat 15 (256 * (p.t.toNat / 256) + d.toNat), v := BitVec.ofNat 15 (256 * (p.t.toNat / 256) + d.toNat), w := false }
    else { p with t := BitVec.ofNat 15 (256 * (d.toNat % 64) + p.t.toNat % 256), w := true } := by
  have hsecond : setField p.t 0 d = BitVec.ofNat 15 (256 * (p.t.toNat / 256) + d.toNat) := by
    apply BitVec.eq_of_toNat_eq
    rw [toNat_setField _ _ _ (by decide), BitVec.toNat_ofNat]
    omega
  have hfirst : setBit (setField p.t 8 (d.extractLsb' 0 6)) 14 false =
      BitVec.ofNat 15 (256 * (d.toNat % 64) + p.t.toNat % 256) := by
    apply BitVec.eq_of_toNat_eq
    rw [toNat_setBit _ _ _ (by decide), toNat_setField _ _ _ (by decide), toNat_extractLsb', BitVec.toNat_ofNat, Bool.toNat_false]
    omega
  rw [writeAddress, hsecond, hfirst]

/-- R302: the status byte. -/
theorem Ppu.toNat_status :
    p.status.toNat = 128 * p.vblank.toNat + 64 * p.sprite0Hit.toNat + 32 * p.spriteOverflow.toNat := by
  have hbits : ∀ v h o : Bool, (setBit (setBit (setBit (0 : Byte) 7 v) 6 h) 5 o).toNat =
      128 * v.toNat + 64 * h.toNat + 32 * o.toNat := by decide
  exact hbits _ _ _

end

/-! ## The ports (R75) -/

theorem byte_toNat_add_one (b : Byte) : byte (b.toNat + 1) = b + 1 := rfl

section
variable {s : State} {n a : Nat}

theorem memWrite_port (h : s.Inv) (ha : port n a) (d : Byte) :
    memWrite (adr a) d s = { s with ppu := s.ppu.writePort (decide (0 < s.cart.chrBanks)) n d } := by
  obtain ⟨h1, h2, rfl⟩ := ha
  have hadr : (adr a).toNat = a := adr_toNat_of_lt (by omega)
  rw [memWrite_ppuPorts h (by omega) (by omega), hadr]

theorem memRead_port (h : s.Inv) (ha : port n a) :
    memRead (adr a) s = ((s.ppu.readPort n).1, { s with ppu := (s.ppu.readPort n).2 }) := by
  obtain ⟨h1, h2, rfl⟩ := ha
  have hadr : (adr a).toNat = a := adr_toNat_of_lt (by omega)
  rw [memRead_ppuPorts h (by omega) (by omega), hadr]

/-- R305: a write to port 5. -/
theorem memWrite_port5 (h : s.Inv) (ha : port 5 a) (d : Byte) :
    memWrite (adr a) d s = { s with ppu := s.ppu.writeScroll d } := memWrite_port h ha d

/-- R306: a write to port 6. -/
theorem memWrite_port6 (h : s.Inv) (ha : port 6 a) (d : Byte) :
    memWrite (adr a) d s = { s with ppu := s.ppu.writeAddress d } := memWrite_port h ha d

end

theorem ppuPortEffects {s : State} (h : s.Inv) (d : Byte) : PpuPortEffects s d := by
  refine ⟨fun a ha => ?_, fun a ha => memWrite_port h ha d, fun a ha => memWrite_port h ha d, fun a ha => memWrite_port h ha d,
    fun a ha => memWrite_port h ha d, fun a ha => ?_, fun a ha => ?_, fun a ha => ?_, fun a ha => memRead_port h ha,
    fun a ha => ?_⟩
  · rw [memWrite_port h ha]
    exact congrArg (fun p => { s with ppu := p }) (Ppu.writeControl_eq d s.ppu)
  · rw [memWrite_port5 h ha, Ppu.writeScroll_eq]
  · rw [memWrite_port6 h ha, Ppu.writeAddress_eq]
  · rw [memRead_port h ha]
    exact ⟨Ppu.toNat_status s.ppu, rfl⟩
  · rcases ha with ha | ha | ha | ha | ha <;> exact memRead_port h ha

/-- R306: two address writes begun with `w` clear. -/
theorem memWrite_port6_twice {s : State} (h : s.Inv) {a b : Nat} (ha : port 6 a) (hb : port 6 b) (hw : s.ppu.w = false) (d e : Byte) :
    memWrite (adr b) e (memWrite (adr a) d s) = { s with ppu := { s.ppu with
      t := BitVec.ofNat 15 (256 * (d.toNat % 64) + e.toNat), v := BitVec.ofNat 15 (256 * (d.toNat % 64) + e.toNat),
      w := false } } := by
  rw [memWrite_port6 (memWrite_inv h _ d) hb, memWrite_port6 h ha, Ppu.writeAddress_eq, Ppu.writeAddress_eq]
  have hhigh : 256 * ((256 * (d.toNat % 64) + s.ppu.t.toNat % 256) % 32768 / 256) = 256 * (d.toNat % 64) := by omega
  simp [hw, hhigh]

/-- R305: two scroll writes begun with `w` clear. -/
theorem memWrite_port5_twice {s : State} (h : s.Inv) {a b : Nat} (ha : port 5 a) (hb : port 5 b) (hw : s.ppu.w = false) (d e : Byte) :
    memWrite (adr b) e (memWrite (adr a) d s) = { s with ppu := { s.ppu with
      t := BitVec.ofNat 15 (d.toNat / 8 + 32 * (e.toNat / 8) + 1024 * (s.ppu.t.toNat / 1024 % 4) + 4096 * (e.toNat % 8)),
      x := BitVec.ofNat 3 (d.toNat % 8), w := false } } := by
  rw [memWrite_port5 (memWrite_inv h _ d) hb, memWrite_port5 h ha, Ppu.writeScroll_eq, Ppu.writeScroll_eq]
  have hnametable : (32 * (s.ppu.t.toNat / 32) + d.toNat / 8) % 32768 / 1024 % 4 = s.ppu.t.toNat / 1024 % 4 := by omega
  have hcoarse : d.toNat / 8 % 32 = d.toNat / 8 := by omega
  have hsum : 4096 * (e.toNat % 8) + 1024 * (s.ppu.t.toNat / 1024 % 4) + 32 * (e.toNat / 8) + d.toNat / 8 =
      d.toNat / 8 + 32 * (e.toNat / 8) + 1024 * (s.ppu.t.toNat / 1024 % 4) + 4096 * (e.toNat % 8) := by omega
  simp [hw, hnametable, hcoarse, hsum]

end Sys2Proof.Machine
end

section
/-! PROOFS. The ports of the APU and I/O window but the sprite DMA (R76, R355 to R375, R378, R386). -/

namespace Sys2Proof.Machine

open Sys2Proof.Spec

/-! ## Reading and writing the window (R76) -/

section
variable {s : State} {n : Nat}

theorem memWrite_window (h : s.Inv) (hn : n < 0x20) (d : Byte) : memWrite (adr (0x4000 + n)) d s = apuWrite n d s := by
  have hadr : (adr (0x4000 + n)).toNat = 0x4000 + n := adr_toNat_of_lt (by omega)
  rw [memWrite_apuIo h (by omega) (by omega), hadr, Nat.add_sub_cancel_left]

theorem memRead_window (h : s.Inv) (hn : n < 0x20) : memRead (adr (0x4000 + n)) s = apuRead n s := by
  have hadr : (adr (0x4000 + n)).toNat = 0x4000 + n := adr_toNat_of_lt (by omega)
  rw [memRead_apuIo h (by omega) (by omega), hadr, Nat.add_sub_cancel_left]

/-- A write to register `n` of the channel whose registers begin at `base`. -/
theorem memWrite_channelReg (h : s.Inv) (base : Nat) (hn : base + n < 0x14) (d : Byte) :
    memWrite (adr (0x4000 + base + n)) d s = { s with apu := s.apu.writeChannelReg (base + n) d } := by
  rw [Nat.add_assoc, memWrite_window h (by omega), apuWrite, if_pos hn]

end

/-! ## The channel registers (R355 to R371) -/

section
variable (d : Byte)

theorem lengthLoad_eq (enable : Bool) (n : Byte) : lengthLoad enable d n = lengthLoaded enable d n := by
  have hindex : (d.extractLsb' 3 5).toNat = d.toNat / 8 := by rw [toNat_extractLsb']; omega
  rw [lengthLoad, lengthTable, hindex]
  rfl

theorem setField_periodLow (p : BitVec 11) : setField p 0 d = periodLow d p := by
  apply BitVec.eq_of_toNat_eq
  rw [toNat_setField _ _ _ (by decide), periodLow, BitVec.toNat_ofNat]
  omega

theorem setField_periodHigh (p : BitVec 11) : setField p 8 (d.extractLsb' 0 3) = periodHigh d p := by
  apply BitVec.eq_of_toNat_eq
  rw [toNat_setField _ _ _ (by decide), toNat_extractLsb', periodHigh, BitVec.toNat_ofNat]
  omega

theorem envelope_writeReg_eq (e : Envelope) : e.writeReg d = envelopeWritten d e := by
  simp only [Envelope.writeReg, envelopeWritten, extractLsb'_eq_ofNat, Nat.pow_zero, Nat.div_one]
  rfl

theorem pulse_writeReg_eq {k : Nat} (hk : k < 4) (c : Pulse) : c.writeReg k d = pulseWritten k d c := by
  have hduty : d.extractLsb' 6 2 = BitVec.ofNat 2 (d.toNat / 64) :=
    BitVec.eq_of_toNat_eq ((toNat_extractLsb' d 6 2).trans (BitVec.toNat_ofNat _ _).symm)
  match k, hk with
  | 0, _ => simp only [Pulse.writeReg, pulseWritten, hduty, envelope_writeReg_eq, if_pos]
  | 1, _ => simp [Pulse.writeReg, pulseWritten, extractLsb'_eq_ofNat]
  | 2, _ => simp [Pulse.writeReg, pulseWritten, setField_periodLow]
  | 3, _ => simp [Pulse.writeReg, pulseWritten, setField_periodHigh, lengthLoad_eq]

theorem triangle_writeReg_eq {k : Nat} (hk : k < 4) (c : Triangle) : c.writeReg k d = triangleWritten k d c := by
  match k, hk with
  | 0, _ => simp [Triangle.writeReg, triangleWritten, extractLsb'_eq_ofNat]
  | 1, _ => simp [Triangle.writeReg, triangleWritten]
  | 2, _ => simp [Triangle.writeReg, triangleWritten, setField_periodLow]
  | 3, _ => simp [Triangle.writeReg, triangleWritten, setField_periodHigh, lengthLoad_eq]

theorem noise_writeReg_eq {k : Nat} (hk : k < 4) (c : Noise) : c.writeReg k d = noiseWritten k d c := by
  match k, hk with
  | 0, _ => simp [Noise.writeReg, noiseWritten, envelope_writeReg_eq]
  | 1, _ => simp [Noise.writeReg, noiseWritten]
  | 2, _ => simp [Noise.writeReg, noiseWritten, extractLsb'_eq_ofNat]
  | 3, _ => simp [Noise.writeReg, noiseWritten, lengthLoad_eq]

theorem dmc_writeReg_eq {k : Nat} (hk : k < 4) (c : Dmc) : c.writeReg k d = dmcWritten k d c := by
  match k, hk with
  | 0, _ => simp [Dmc.writeReg, dmcWritten, extractLsb'_eq_ofNat]
  | 1, _ => simp [Dmc.writeReg, dmcWritten, extractLsb'_eq_ofNat]
  | 2, _ => simp [Dmc.writeReg, dmcWritten, adr]
  | 3, _ => simp [Dmc.writeReg, dmcWritten]

end

section
variable {k : Nat} (hk : k < 4) (d : Byte) (a : Apu)
include hk

theorem writeChannelReg_pulse1 : a.writeChannelReg (0 + k) d = { a with pulse1 := pulseWritten k d a.pulse1 } := by
  rw [Nat.zero_add, Apu.writeChannelReg, if_pos hk, pulse_writeReg_eq d hk]

theorem writeChannelReg_pulse2 : a.writeChannelReg (4 + k) d = { a with pulse2 := pulseWritten k d a.pulse2 } := by
  rw [Apu.writeChannelReg, if_neg (by omega), if_pos (by omega), Nat.add_sub_cancel_left, pulse_writeReg_eq d hk]

theorem writeChannelReg_triangle : a.writeChannelReg (8 + k) d = { a with triangle := triangleWritten k d a.triangle } := by
  rw [Apu.writeChannelReg, if_neg (by omega), if_neg (by omega), if_pos (by omega), Nat.add_sub_cancel_left,
    triangle_writeReg_eq d hk]

theorem writeChannelReg_noise : a.writeChannelReg (12 + k) d = { a with noise := noiseWritten k d a.noise } := by
  rw [Apu.writeChannelReg, if_neg (by omega), if_neg (by omega), if_neg (by omega), if_pos (by omega),
    Nat.add_sub_cancel_left, noise_writeReg_eq d hk]

theorem writeChannelReg_dmc : a.writeChannelReg (16 + k) d = { a with dmc := dmcWritten k d a.dmc } := by
  rw [Apu.writeChannelReg, if_neg (by omega), if_neg (by omega), if_neg (by omega), if_neg (by omega),
    Nat.add_sub_cancel_left, dmc_writeReg_eq d hk]

end

theorem channelRegisterEffects {s : State} (h : s.Inv) (d : Byte) : ChannelRegisterEffects s d := by
  intro k hk
  rw [← writeChannelReg_pulse1 hk, ← writeChannelReg_pulse2 hk, ← writeChannelReg_triangle hk, ← writeChannelReg_noise hk,
    ← writeChannelReg_dmc hk]
  exact ⟨memWrite_channelReg h 0 (by omega) d, memWrite_channelReg h 4 (by omega) d, memWrite_channelReg h 8 (by omega) d,
    memWrite_channelReg h 12 (by omega) d, memWrite_channelReg h 16 (by omega) d⟩

/-! ## The enables and the first byte of a sample (R372, R386, R387) -/

/-- R252: against an IRQ any pending tag wins. -/
theorem mergePending_irq (cur : Tag) : mergePending cur .irq = if cur = .none then .irq else cur := by cases cur <;> rfl

/-- R386: the first byte of a sample goes into the buffer; whether it is the last, and then what follows. -/
theorem dmcTake_firstByte (b : Byte) {c : Dmc} (hcur : c.curAddr = c.sampleAddr) (hleft : c.bytesLeft = c.sampleLen)
    (hlen : c.sampleLen ≠ 0) (hirq : c.dmcIrq = false) :
    let last := decide (c.sampleLen.toNat = 1)
    dmcTake b c = ({ c with
      buffer := b, bufferFull := true
      curAddr := if last && c.loop then c.sampleAddr else if c.sampleAddr = 0xFFFF then 0x8000 else adr (c.sampleAddr.toNat + 1)
      bytesLeft := if last && c.loop then c.sampleLen else BitVec.ofNat 12 (c.sampleLen.toNat - 1)
      dmcIrq := last && !c.loop && c.irqEnable }, last && !c.loop && c.irqEnable) := by
  have hlast : c.sampleLen - 1 = 0 ↔ c.sampleLen.toNat = 1 := by bv_omega
  have hpred : BitVec.ofNat 12 (c.sampleLen.toNat - 1) = c.sampleLen - 1 := by bv_omega
  have hnext : adr (c.sampleAddr.toNat + 1) = c.sampleAddr + 1 := rfl
  rw [hpred, hnext]
  simp only [dmcTake, hcur, hleft, hlast]
  by_cases h1 : c.sampleLen.toNat = 1
  · cases c.loop <;> cases c.irqEnable <;> simp [h1, hirq]
  · simp [h1, hirq]

/-- R386: a sample about to be read into an empty buffer. -/
theorem dmcRefill_firstByte {s : State} (hfull : s.apu.dmc.bufferFull = false) (hcur : s.apu.dmc.curAddr = s.apu.dmc.sampleAddr)
    (hleft : s.apu.dmc.bytesLeft = s.apu.dmc.sampleLen) (hlen : s.apu.dmc.sampleLen ≠ 0) (hirq : s.apu.dmc.dmcIrq = false) :
    dmcRefill s = firstByteRead s := by
  rw [dmcRefill, if_pos ⟨hfull, hleft ▸ hlen⟩]
  simp only [hcur, memRead_dmc, dmcTake_firstByte _ hcur hleft hlen hirq]
  simp only [firstByteRead]
  cases decide (s.apu.dmc.sampleLen.toNat = 1) && !s.apu.dmc.loop && s.apu.dmc.irqEnable with
  | false => simp
  | true => simp [request, mergePending_irq]

section
variable {s : State} (h : s.Inv) (d : Byte)

/-- R372: a write to 0x4015 that starts no sample. -/
theorem dmcStart_of_not_started (hd : d.getLsbD 4 = false ∨ s.apu.dmc.bytesLeft ≠ 0) : dmcStart d s = s := by
  refine if_neg fun hc => ?_
  rcases hd with hd | hd
  · exact Bool.false_ne_true (hd.symm.trans hc.1)
  · exact hd hc.2

/-- R372: a write to 0x4015 that starts a sample, before the refill. -/
theorem dmcStart_of_started (hd : d.getLsbD 4 = true) (hleft : s.apu.dmc.bytesLeft = 0) :
    dmcStart d { s with apu := enablesWritten d s.apu } = dmcRefill (sampleStarted d s) :=
  if_pos ⟨hd, by simp [enablesWritten, hleft]⟩

include h

theorem memWrite_enables : memWrite 0x4015 d s = dmcStart d { s with apu := enablesWritten d s.apu } :=
  memWrite_window (n := 0x15) h (by decide) d

theorem memWrite_enables_of_not_started (hd : d.getLsbD 4 = false ∨ s.apu.dmc.bytesLeft ≠ 0) :
    memWrite 0x4015 d s = { s with apu := enablesWritten d s.apu } := by
  rw [memWrite_enables h]
  refine dmcStart_of_not_started d ?_
  cases hd4 : d.getLsbD 4 with
  | false => exact .inl rfl
  | true =>
    have hleft : s.apu.dmc.bytesLeft ≠ 0 := hd.resolve_left (by rw [hd4]; decide)
    exact .inr (by simpa only [enablesWritten, hd4, if_true] using hleft)

theorem memWrite_enables_of_full (hd : d.getLsbD 4 = true) (hleft : s.apu.dmc.bytesLeft = 0)
    (hfull : s.apu.dmc.bufferFull = true ∨ s.apu.dmc.sampleLen = 0) : memWrite 0x4015 d s = sampleStarted d s := by
  rw [memWrite_enables h, dmcStart_of_started d hd hleft]
  refine if_neg fun hc => ?_
  rcases hfull with hfull | hlen
  · exact Bool.false_ne_true (hc.1.symm.trans hfull)
  · exact hc.2 hlen

theorem memWrite_enables_of_empty (hd : d.getLsbD 4 = true) (hleft : s.apu.dmc.bytesLeft = 0)
    (hfull : s.apu.dmc.bufferFull = false) (hlen : s.apu.dmc.sampleLen ≠ 0) :
    memWrite 0x4015 d s = firstByteRead (sampleStarted d s) := by
  rw [memWrite_enables h, dmcStart_of_started d hd hleft]
  exact dmcRefill_firstByte hfull rfl rfl hlen rfl

end

/-! ## The status (R373) -/

theorem decide_ne_zero {n : Nat} (x : BitVec n) : decide (x ≠ 0) = decide (0 < x.toNat) := by
  rw [decide_eq_decide, Nat.pos_iff_ne_zero, ne_eq, ← BitVec.toNat_inj]
  rfl

theorem Apu.toNat_status (a : Apu) : a.status.toNat =
    (decide (0 < a.pulse1.length.toNat)).toNat + 2 * (decide (0 < a.pulse2.length.toNat)).toNat +
    4 * (decide (0 < a.triangle.length.toNat)).toNat + 8 * (decide (0 < a.noise.length.toNat)).toNat +
    16 * (decide (0 < a.dmc.bytesLeft.toNat)).toNat + 64 * a.frameIrq.toNat + 128 * a.dmc.dmcIrq.toNat := by
  have hbits : ∀ p1 p2 t n c f i : Bool,
      (setBit (setBit (setBit (setBit (setBit (setBit (setBit (0 : Byte) 0 p1) 1 p2) 2 t) 3 n) 4 c) 6 f) 7 i).toNat =
      p1.toNat + 2 * p2.toNat + 4 * t.toNat + 8 * n.toNat + 16 * c.toNat + 64 * f.toNat + 128 * i.toNat := by decide
  simp only [status, decide_ne_zero, hbits]

/-! ## The controllers (R378) -/

theorem Pads.writeStrobe_eq (d : Byte) (c : Pads) : c.writeStrobe d = { c with
    strobe := d.getLsbD 0
    padShift1 := if d.getLsbD 0 then c.buttons1 else c.padShift1
    padShift2 := if d.getLsbD 0 then c.buttons2 else c.padShift2 } := by
  unfold writeStrobe
  cases d.getLsbD 0 <;> rfl

/-- R378: a serial read gives the low bit; with the strobe off the register shifts and a 1 enters at its top. -/
theorem Pads.serial_eq (strobe : Bool) (buttons shift : Byte) : serial strobe buttons shift =
    if strobe then (byte (buttons.toNat % 2), buttons) else (byte (shift.toNat % 2), byte (shift.toNat / 2 + 128)) := by
  have hlow : ∀ b : Byte, b &&& 1 = byte (b.toNat % 2) := by
    intro b
    apply BitVec.eq_of_toNat_eq
    rw [BitVec.toNat_and, byte, BitVec.toNat_ofNat]
    show b.toNat &&& 1 = _
    rw [Nat.and_one_is_mod]
    omega
  have hshift : ∀ b : Byte, setBit (b >>> 1) 7 true = byte (b.toNat / 2 + 128) := by
    intro b
    apply BitVec.eq_of_toNat_eq
    rw [toNat_setBit _ _ _ (by decide), BitVec.toNat_ushiftRight, Nat.shiftRight_eq_div_pow, byte, BitVec.toNat_ofNat, Bool.toNat_true]
    omega
  cases strobe with
  | false => simp only [serial, hlow, hshift, Bool.false_eq_true, if_false]
  | true => simp only [serial, hlow, if_true]

theorem apuPortEffects {s : State} (h : s.Inv) (d : Byte) : ApuPortEffects s d := by
  have hstatus := memRead_window (n := 0x15) h (by decide)
  have hpad1 := memRead_window (n := 0x16) h (by decide)
  have hpad2 := memRead_window (n := 0x17) h (by decide)
  refine ⟨memWrite_enables_of_not_started h d, memWrite_enables_of_full h d, memWrite_enables_of_empty h d,
    ?_, congrArg Prod.snd hstatus, memWrite_window (n := 0x17) h (by decide) d, ?_, hpad1.trans ?_, hpad2.trans ?_,
    fun a h1 h2 => ?_, fun a h1 h2 hne => ?_⟩
  · exact (congrArg (BitVec.toNat ∘ Prod.fst) hstatus).trans (Apu.toNat_status s.apu)
  · exact (memWrite_window (n := 0x16) h (by decide) d).trans
      (congrArg (fun c => { s with pads := c }) (Pads.writeStrobe_eq d s.pads))
  · show ((Pads.readPad1 s.pads).1, { s with pads := (Pads.readPad1 s.pads).2 }) = _
    rw [Pads.readPad1, Pads.serial_eq]
    split <;> rfl
  · show ((Pads.readPad2 s.pads).1, { s with pads := (Pads.readPad2 s.pads).2 }) = _
    rw [Pads.readPad2, Pads.serial_eq]
    split <;> rfl
  · obtain ⟨n, rfl⟩ := Nat.exists_eq_add_of_le (Nat.le_trans (by decide : 0x4000 ≤ 0x4018) h1)
    rw [memWrite_window h (by omega)]
    unfold apuWrite
    iterate 5 rw [if_neg (by omega)]
  · obtain ⟨n, rfl⟩ := Nat.exists_eq_add_of_le h1
    simp only [List.mem_cons, List.not_mem_nil, or_false, not_or] at hne
    rw [memRead_window h (by omega)]
    unfold apuRead
    iterate 3 rw [if_neg (by omega)]

/-- Settles O48: each port by the device's own rule, with its bit fields as numbers. -/
theorem portEffects : Obligations.PortEffects := fun _ d h =>
  ⟨ppuPortEffects h d, channelRegisterEffects h d, apuPortEffects h d,
    fun _ _ e ha hb hw => memWrite_port6_twice h ha hb hw d e, fun _ _ e ha hb hw => memWrite_port5_twice h ha hb hw d e⟩

end Sys2Proof.Machine
end

section
/-! PROOFS. The decoder and the encoder (R110 to R112, R126): each reads back what the other writes. -/

namespace Sys2Proof

open Machine

/-! ## The encoder on the decoder's answers -/

/-- R110: every entry of the map has length 1, 2 or 3. -/
theorem lengthOf_cases (op : Byte) : lengthOf op = 1 ∨ lengthOf op = 2 ∨ lengthOf op = 3 := by
  revert op
  decide

/-- R111: the operand bytes of an instruction of length `n`, given an operand byte and an operand word. -/
def operandBytes (n : Nat) (d : Byte) (a : Addr) : List Byte :=
  match n with
  | 2 => [d]
  | 3 => [loByte a, hiByte a]
  | _ => []

theorem length_operandBytes (op d : Byte) (a : Addr) : (operandBytes (lengthOf op) d a).length + 1 = lengthOf op := by
  rcases lengthOf_cases op with h | h | h <;> rw [h] <;> rfl

/-- R111, R126: the encoder writes the opcode byte that the map was asked for, then its operand. The map is a table, so it is
checked entry by entry. -/
theorem encode_decodeOp (op d : Byte) (a : Addr) : encode (decodeOp op d a) = op :: operandBytes (lengthOf op) d a := by
  obtain ⟨n, hn, rfl⟩ : ∃ n < 256, BitVec.ofNat 8 n = op := ⟨op.toNat, op.isLt, BitVec.ofNat_toNat 8 op⟩
  interval_cases n <;> rfl

theorem length_encode_decodeOp (op d : Byte) (a : Addr) : (encode (decodeOp op d a)).length = lengthOf op := by
  rw [encode_decodeOp, List.length_cons, length_operandBytes]

theorem wellFormedBytes_cons {op : Byte} {rest : List Byte} :
    wellFormedBytes (op :: rest) = true ↔ rest.length + 1 = lengthOf op := decide_eq_true_iff

/-! ## What the decoder reads -/

theorem decode_oneByte {op : Byte} (h : lengthOf op = 1) (rest : List Byte) : decode (op :: rest) = .ok (decodeOp op 0 0, rest) := by
  simp only [decode, h]

theorem decode_twoByte {op : Byte} (h : lengthOf op = 2) (d : Byte) (rest : List Byte) :
    decode (op :: d :: rest) = .ok (decodeOp op d 0, rest) := by
  simp only [decode, h]

theorem decode_threeByte {op : Byte} (h : lengthOf op = 3) (lo hi : Byte) (rest : List Byte) :
    decode (op :: lo :: hi :: rest) = .ok (decodeOp op 0 (word hi lo), rest) := by
  simp only [decode, h]

theorem decode_short {op : Byte} {rest : List Byte} (h : rest.length + 1 < lengthOf op) :
    decode (op :: rest) = .error (.truncated op) := by
  rcases lengthOf_cases op with h1 | h2 | h3
  · omega
  · match rest with
    | [] => simp only [decode, h2]
    | _ :: _ => simp only [List.length_cons] at h; omega
  · match rest with
    | [] | [_] => simp only [decode, h3]
    | _ :: _ :: _ => simp only [List.length_cons] at h; omega

/-- R110, R111: enough bytes are an opcode with its operand, and the decoder answers the map's entry. -/
theorem decode_whole {op : Byte} {rest : List Byte} (h : lengthOf op ≤ rest.length + 1) :
    ∃ d a tail, rest = operandBytes (lengthOf op) d a ++ tail ∧ decode (op :: rest) = .ok (decodeOp op d a, tail) := by
  rcases lengthOf_cases op with h1 | h2 | h3
  · exact ⟨0, 0, rest, by rw [h1]; rfl, decode_oneByte h1 rest⟩
  · match rest with
    | [] => simp only [List.length_nil] at h; omega
    | d :: tail => exact ⟨d, 0, tail, by rw [h2]; rfl, decode_twoByte h2 d tail⟩
  · match rest with
    | [] | [_] => simp only [List.length_cons, List.length_nil] at h; omega
    | lo :: hi :: tail =>
      exact ⟨0, word hi lo, tail, by simp only [h3, operandBytes, loByte_word, hiByte_word, List.cons_append, List.nil_append],
        decode_threeByte h3 lo hi tail⟩

/-- What the decoder answers comes from the map, and what it read is the opcode and the operand. -/
theorem decode_inv {bytes rest : List Byte} {i : Instr} (h : decode bytes = .ok (i, rest)) :
    ∃ op d a, i = decodeOp op d a ∧ bytes = op :: operandBytes (lengthOf op) d a ++ rest := by
  cases bytes with
  | nil => cases h
  | cons op more =>
    by_cases hlen : lengthOf op ≤ more.length + 1
    · obtain ⟨d, a, tail, rfl, hdec⟩ := decode_whole hlen
      cases hdec.symm.trans h
      exact ⟨op, d, a, rfl, rfl⟩
    · rw [decode_short (by omega)] at h
      cases h

/-! ## The obligations -/

/-- R110 to R112: every instruction has the round trip. Only in format F3 is there an operand to put together. -/
theorem Laws.RoundTrip.all (i : Instr) : Laws.RoundTrip.Statement i := by
  cases i with
  | oraAbs a | aslAbs a | oraAby a | oraAbx a | aslAbx a | jsrAbs a | bitAbs a | andAbs a | rolAbs a | andAby a | andAbx a
  | rolAbx a | jmpAbs a | eorAbs a | lsrAbs a | eorAby a | eorAbx a | lsrAbx a | jmpInd a | adcAbs a | rorAbs a | adcAby a
  | adcAbx a | rorAbx a | styAbs a | staAbs a | stxAbs a | staAby a | staAbx a | ldyAbs a | ldaAbs a | ldxAbs a | ldaAby a
  | ldyAbx a | ldaAbx a | ldxAby a | cpyAbs a | cmpAbs a | decAbs a | cmpAby a | cmpAbx a | decAbx a | cpxAbs a | sbcAbs a
  | incAbs a | sbcAby a | sbcAbx a | incAbx a =>
    exact Laws.RoundTrip.decode3 _ rfl a
  | _ => exact fun _ => rfl

/-- Settles O20: the round trip of each instruction. -/
theorem decodeEncode : Obligations.DecodeEncode := fun i rest _ => Laws.RoundTrip.all i rest

theorem decode_exact {bytes rest : List Byte} {i : Instr} (h : decode bytes = .ok (i, rest)) :
    bytes = encode i ++ rest ∧ (encode i).length ∈ [1, 2, 3] ∧ wellFormedBytes (encode i) = true := by
  obtain ⟨op, d, a, rfl, rfl⟩ := decode_inv h
  refine ⟨by rw [encode_decodeOp], ?_, ?_⟩
  · rw [length_encode_decodeOp]
    simpa using lengthOf_cases op
  · rw [encode_decodeOp, wellFormedBytes_cons, length_operandBytes]

theorem decode_nil_error_iff (e : DecodeError) : decode [] = .error e ↔ e = .empty :=
  ⟨fun h => by cases h; rfl, fun h => by cases h; rfl⟩

theorem decode_cons_error_iff (op : Byte) (rest : List Byte) :
    (∃ e, decode (op :: rest) = .error e) ↔ rest.length + 1 < lengthOf op := by
  refine ⟨fun ⟨e, he⟩ => ?_, fun h => ⟨_, decode_short h⟩⟩
  by_contra hlen
  obtain ⟨d, a, tail, -, hdec⟩ := decode_whole (Nat.le_of_not_lt hlen)
  cases hdec.symm.trans he

/-- Settles O21: the decoder inverted, the encoder on the map's entries, and the two ways to run out of bytes. -/
theorem decodeExact : Obligations.DecodeExact :=
  ⟨fun _ _ _ => decode_exact, decode_nil_error_iff, decode_cons_error_iff⟩

/-- Settles O22: each word evaluated. -/
theorem sampleWords : Obligations.SampleWords := by
  unfold Obligations.SampleWords
  decide

end Sys2Proof
end

section
/-! PROOFS. A step inside `Execute` is the interrupt check and then the instruction whose bytes the bus gives at the PC (R11, R132, R458). -/

namespace Sys2Proof.Machine

open Sys2Proof.Spec

/-! ## Fetching over the bus -/

theorem adr_toNat_add (a : Addr) (n : Nat) : adr (a.toNat + n) = a + BitVec.ofNat 16 n := by
  rw [adr, BitVec.ofNat_add, BitVec.ofNat_toNat, BitVec.setWidth_eq]

theorem fetched_zero (s : State) : fetched 0 s = ([], s) := rfl

theorem fetched_succ (n : Nat) (s : State) :
    fetched (n + 1) s = ((fetch8 s).1 :: (fetched n (fetch8 s).2).1, (fetched n (fetch8 s).2).2) := by
  rw [fetched, adr_toNat_add, fetch8, memRead_pc]
  rfl

theorem length_fetched (n : Nat) (s : State) : (fetched n s).1.length = n := by
  induction n generalizing s with
  | zero => rfl
  | succ n ih => rw [fetched_succ, List.length_cons, ih]

/-- R132: the machine's fetch is the decoder on as many bytes as the first one asks for. -/
theorem decode_fetched (s : State) :
    decode (fetched (lengthOf (fetch8 s).1) s).1 = .ok ((fetchInstr s).1, []) ∧
    (fetched (lengthOf (fetch8 s).1) s).2 = (fetchInstr s).2 := by
  rcases lengthOf_cases (fetch8 s).1 with h | h | h
  · simp only [h, fetched_succ, fetched_zero, decode_oneByte h, fetchInstr, and_self]
  · simp only [h, fetched_succ, fetched_zero, decode_twoByte h, fetchInstr, and_self]
  · simp only [h, fetched_succ, fetched_zero, decode_threeByte h, fetchInstr, and_self]

/-- R110: bytes that decode with nothing left over are as many as their opcode asks for. -/
theorem eq_lengthOf_of_decode_fetched {n : Nat} {s : State} {i : Instr} (h : decode (fetched n s).1 = .ok (i, [])) :
    n = lengthOf (fetch8 s).1 := by
  obtain ⟨hbytes, -, hwf⟩ := decode_exact h
  rw [List.append_nil] at hbytes
  rw [← hbytes] at hwf
  cases n with
  | zero => cases hwf
  | succ n => rwa [fetched_succ, wellFormedBytes_cons, length_fetched] at hwf

theorem cpuStep_of_decode_fetched {n : Nat} {s : State} {i : Instr} (h : decode (fetched n s).1 = .ok (i, [])) :
    cpuStep s = exec i (fetched n s).2 := by
  obtain rfl := eq_lengthOf_of_decode_fetched h
  obtain ⟨hdec, hst⟩ := decode_fetched s
  cases hdec.symm.trans h
  rw [hst, cpuStep]

/-- Settles O23: the step with budget left, and the bytes that the fetch takes. -/
theorem stepRunsFetched : Obligations.StepRunsFetched := fun _ _ _ hphase hcyc hdec =>
  (step_of_budget hphase hcyc).trans (cpuStep_of_decode_fetched hdec)

/-! ## Bytes that lie in a memory -/

theorem servicePending_of_not_due {s : State} (h : interruptDue s = false) : servicePending s = s := by
  unfold interruptDue at h
  unfold servicePending
  cases hp : s.pending with
  | none => rfl
  | reset | nmi => simp only [hp, Bool.true_eq_false] at h
  | irq | brk =>
    simp only [hp, Bool.not_eq_false'] at h
    exact if_pos h

theorem plain_of_storable {s : State} {a : Addr} (h : storable s a = true) : plain s a := by
  unfold storable at h
  constructor <;> intro hdev <;> simp only [hdev, Bool.false_eq_true] at h

/-- R11, R72: a byte fetched from a memory moves the PC and leaves the rest. -/
theorem fetch8_of_plain {s : State} {a : Addr} (h : plain s a) :
    fetch8 { s with pc := a } = (peek s a, { s with pc := a + 1 }) := by
  have hread : memRead a { s with pc := a } = (peek s a, { s with pc := a }) :=
    Prod.ext (peek_of_stored (s := s) (t := { s with pc := a }) rfl h) (memRead_of_plain h)
  rw [fetch8, hread]

/-- The first one, two or three of the bytes at the PC, when they lie in memories. -/
theorem fetched_of_plain {n : Nat} {s : State} (hn : n ∈ [1, 2, 3])
    (h0 : plain s s.pc) (h1 : plain s (s.pc + 1)) (h2 : plain s (s.pc + 2)) :
    fetched n s = ([peek s s.pc, peek s (s.pc + 1), peek s (s.pc + 2)].take n, { s with pc := adr (s.pc.toNat + n) }) := by
  have hfirst : fetch8 s = (peek s s.pc, { s with pc := s.pc + 1 }) := fetch8_of_plain h0
  have hsecond : fetch8 { s with pc := s.pc + 1 } = (peek s (s.pc + 1), { s with pc := s.pc + 2 }) := by
    rw [fetch8_of_plain h1, BitVec.add_assoc]
    rfl
  have hthird : fetch8 { s with pc := s.pc + 2 } = (peek s (s.pc + 2), { s with pc := s.pc + 3 }) := by
    rw [fetch8_of_plain h2, BitVec.add_assoc]
    rfl
  simp only [List.mem_cons, List.not_mem_nil, or_false] at hn
  rcases hn with rfl | rfl | rfl <;> rw [adr_toNat_add] <;>
    simp only [fetched_succ, fetched_zero, hfirst, hsecond, hthird] <;> rfl

/-- Settles O24: the instruction's own bytes, cut from the three at the PC, are what the fetch takes. -/
theorem stepRunsDecoded : Obligations.StepRunsDecoded := by
  intro s i rest hphase hcyc hdue hm0 hm1 hm2 hdec hwf
  obtain ⟨hbytes, hlen, -⟩ := decode_exact hdec
  have hfetch := fetched_of_plain hlen (plain_of_storable hm0) (plain_of_storable hm1) (plain_of_storable hm2)
  rw [hbytes, List.take_left] at hfetch
  have hexact : decode (encode i) = .ok (i, []) := by simpa using decodeEncode i [] hwf
  have hstep := stepRunsFetched s (encode i).length i hphase hcyc
  rw [servicePending_of_not_due hdue, hfetch] at hstep
  exact hstep hexact

end Sys2Proof.Machine
end

section
/-! PROOFS. The forms of the statements are rows of the machine's tables, and what an instruction that reads or writes its operand
does in the words of the statements (R17, R110 to R112, R115 to R123, R495, R496). -/

namespace Sys2Proof.Machine

open Sys2Proof.Spec

/-! ## Registers that a read keeps (R17, R72) -/

section
variable {s t : State} (h : ReadFrame s t)
include h

theorem ReadFrame.a_eq : t.a = s.a := by obtain ⟨_, _, _, rfl, -⟩ := h; rfl
theorem ReadFrame.x_eq : t.x = s.x := by obtain ⟨_, _, _, rfl, -⟩ := h; rfl
theorem ReadFrame.y_eq : t.y = s.y := by obtain ⟨_, _, _, rfl, -⟩ := h; rfl
theorem ReadFrame.p_eq : t.p = s.p := by obtain ⟨_, _, _, rfl, -⟩ := h; rfl
theorem ReadFrame.cyc_eq : t.cyc = s.cyc := by obtain ⟨_, _, _, rfl, -⟩ := h; rfl

end

/-! ## The operand bytes (R111, R112) -/

theorem loByte_eq_byte (a : Addr) : loByte a = byte (a.toNat % 256) :=
  BitVec.eq_of_toNat_eq ((toNat_loByte a).trans (Nat.mod_mod _ _).symm)

theorem hiByte_eq_byte (a : Addr) : hiByte a = byte (a.toNat / 256) := by
  have ha := a.isLt
  refine BitVec.eq_of_toNat_eq ((toNat_hiByte a).trans (Nat.mod_eq_of_lt ?_).symm)
  omega

/-- The operand bytes of a mode as the encoder writes them. -/
def modeBytes : Mode → List Byte
  | .zp d | .zpx d | .zpy d | .izx d | .izy d => [d]
  | .abs a | .abx a | .aby a => [loByte a, hiByte a]

theorem modeBytes_eq (m : Mode) : modeBytes m = m.bytes := by
  cases m with
  | zp d | zpx d | zpy d | izx d | izy d => rfl
  | abs a | abx a | aby a => simp only [modeBytes, Mode.bytes, loByte_eq_byte, hiByte_eq_byte]

def srcBytes : Src → List Byte
  | .imm d => [d]
  | .mem m => modeBytes m

theorem srcBytes_eq (o : Src) : srcBytes o = o.bytes := by
  cases o with
  | imm d => rfl
  | mem m => exact modeBytes_eq m

/-! ## The effective address and the page crossing (R116 to R123) -/

theorem indexed_crossed (a : Addr) (i : Byte) :
    (indexed a i).crossed = decide ((a.toNat + i.toNat) % 65536 / 256 ≠ a.toNat / 256) := by
  rw [← toNat_indexed, ← toNat_hiByte, ← toNat_hiByte]
  simp only [indexed, ne_eq, BitVec.toNat_inj]

theorem modeEa_crossed (m : Mode) (s : State) : (modeEa m s).1.crossed = (m.target s).crossed := by
  cases m with
  | zp d | zpx d | zpy d | abs a | izx d => rfl
  | abx a | aby a => exact indexed_crossed a _
  | izy d => simp only [modeEa, eaIzy, Mode.target, pointer_eq (z := d) rfl, indexedTarget, indexed_crossed, zpRead16_y]

/-- The machine's addressing-mode step is the target of the statements. -/
theorem modeEa_eq (m : Mode) (s : State) :
    modeEa m s = (⟨adr (m.target s).addr, (m.target s).crossed⟩, (m.target s).st) := by
  rw [← modeEa_addr, ← modeEa_crossed, ← modeEa_st, adr_toNat]

/-- The modes whose address step can cross a page (R120, R121, R123). -/
def mayCross : Src → Bool
  | .mem (.abx _) | .mem (.aby _) | .mem (.izy _) => true
  | _ => false

theorem crossed_of_not_mayCross {o : Src} (h : mayCross o = false) (s : State) : (o.read s).crossed = false := by
  cases o with
  | imm d => rfl
  | mem m =>
    cases m with
    | zp d | zpx d | zpy d | abs a | izx d => rfl
    | abx a | aby a | izy d => cases h

/-! ## The cycles (R495, R496) -/

theorem opCycles_of_pagePenalty {op : Byte} (h : pagePenalty op = true) (crossed : Bool) :
    opCycles op crossed = cycleTable op + penalty crossed := by
  rw [opCycles, h, Bool.true_and]
  cases crossed <;> rfl

theorem opCycles_of_not_pagePenalty {op : Byte} (h : pagePenalty op = false) (crossed : Bool) :
    opCycles op crossed = cycleTable op := by
  rw [opCycles, h, Bool.false_and]
  rfl

/-! ## The forms that read an operand -/

/-- A read-type instruction on an operand of the statements: an immediate byte or a memory operand. -/
def readSrc (op : Byte) (o : Src) (g : Byte → State → State) (s : State) : State :=
  match o with
  | .imm d => immediate op d g s
  | .mem m => readMem op (modeEa m s) g

theorem readSrc_eq (op : Byte) (o : Src) (g : Byte → State → State) (s : State) :
    readSrc op o g s = addCycles (opCycles op (o.read s).crossed) (g (o.read s).val (o.read s).st) := by
  cases o with
  | imm d => rfl
  | mem m =>
    simp only [readSrc, readMem, modeEa_eq]
    rfl

/-- The form is a read-type instruction with the operation `g`: its bytes, its rows of R495, and its meaning. -/
structure Reads (f : Form) (s : State) (g : Byte → State → State) : Prop where
  bytes : encode f.instr = byte f.op :: srcBytes f.src
  base : cycleTable (byte f.op) = f.cycles
  crossing : pagePenalty (byte f.op) = mayCross f.src
  meaning : exec f.instr s = .next (readSrc (byte f.op) f.src g s)

/-- A row's facts on its own numbers: closed, so that the table is looked up by evaluation. -/
theorem reads_row {op cycles : Nat} {i : Instr} {o : Src} {s : State} {g : Byte → State → State}
    (bytes : encode i = byte op :: srcBytes o) (base : cycleTable (byte op) = cycles) (crossing : pagePenalty (byte op) = mayCross o)
    (meaning : exec i s = .next (readSrc (byte op) o g s)) : Reads ⟨op, i, o, cycles⟩ s g :=
  ⟨bytes, base, crossing, meaning⟩

section
variable {f : Form} {s : State} {g : Byte → State → State} (h : Reads f s g)
include h

theorem Reads.encoded : f.Encoded := by
  rw [Form.Encoded, h.bytes, srcBytes_eq]

theorem Reads.opCycles_eq : opCycles (byte f.op) (f.src.read s).crossed = f.cycles + penalty (f.src.read s).crossed := by
  rw [← h.base]
  cases hx : mayCross f.src with
  | true => exact opCycles_of_pagePenalty (h.crossing.trans hx) _
  | false =>
    rw [opCycles_of_not_pagePenalty (h.crossing.trans hx), crossed_of_not_mayCross hx]
    rfl

/-- The operand is read, the operation is done on the state that the read left, and the cycles of the rule are charged. -/
theorem Reads.exec_eq : exec f.instr s =
    .next (addCycles (f.cycles + penalty (f.src.read s).crossed) (g (f.src.read s).val (f.src.read s).st)) := by
  rw [h.meaning, readSrc_eq, h.opCycles_eq]

end

/-- A property of eight forms is one property per mode. -/
theorem forall_mem_eightForms {P : Form → Prop} {ops : Fin 8 → Nat} {imm zp zpx : Byte → Instr} {ab abx aby : Addr → Instr}
    {izx izy : Byte → Instr} {d : Byte} {a : Addr}
    (h0 : P ⟨ops 0, imm d, .imm d, 2⟩) (h1 : P ⟨ops 1, zp d, .mem (.zp d), 3⟩) (h2 : P ⟨ops 2, zpx d, .mem (.zpx d), 4⟩)
    (h3 : P ⟨ops 3, ab a, .mem (.abs a), 4⟩) (h4 : P ⟨ops 4, abx a, .mem (.abx a), 4⟩) (h5 : P ⟨ops 5, aby a, .mem (.aby a), 4⟩)
    (h6 : P ⟨ops 6, izx d, .mem (.izx d), 6⟩) (h7 : P ⟨ops 7, izy d, .mem (.izy d), 5⟩) :
    ∀ f ∈ eightForms ops imm zp zpx ab abx aby izx izy d a, P f := by
  simp only [eightForms, List.forall_mem_cons, List.not_mem_nil, false_implies, implies_true, and_true]
  exact ⟨h0, h1, h2, h3, h4, h5, h6, h7⟩

/-! ## The forms that write their operand -/

/-- The form is a row of the opcode map and of R495; an instruction that writes memory pays no penalty. -/
structure Tabled (f : MForm) : Prop where
  bytes : encode f.instr = byte f.op :: modeBytes f.mode
  base : cycleTable (byte f.op) = f.cycles
  noPenalty : pagePenalty (byte f.op) = false

theorem tabled_row {op cycles : Nat} {i : Instr} {m : Mode} (bytes : encode i = byte op :: modeBytes m)
    (base : cycleTable (byte op) = cycles) (noPenalty : pagePenalty (byte op) = false) : Tabled ⟨op, i, m, cycles⟩ :=
  ⟨bytes, base, noPenalty⟩

section
variable {f : MForm} (h : Tabled f)
include h

theorem Tabled.encoded : f.Encoded := by
  rw [MForm.Encoded, h.bytes, modeBytes_eq]

theorem Tabled.opCycles_eq (crossed : Bool) : opCycles (byte f.op) crossed = f.cycles :=
  (opCycles_of_not_pagePenalty h.noPenalty crossed).trans h.base

/-- One write of the register at the effective address, and the cycles of the rule. -/
theorem Writes.exec_eq {s : State} {v : State → Byte} (hw : Writes f s v) : exec f.instr s =
    .next (addCycles f.cycles (memWrite (adr (f.mode.target s).addr) (v (f.mode.target s).st) (f.mode.target s).st)) := by
  rw [Writes, writeMem, h.opCycles_eq, modeEa_eq] at hw
  exact hw

end

end Sys2Proof.Machine
end

section
/-! PROOFS. Loads, stores and transfers (R140 to R151). -/

namespace Sys2Proof.Machine

open Sys2Proof.Spec

/-! ## N and Z of a result (R13) -/

/-- The flag byte with N and Z of `v`. -/
def withNZ (v p : Byte) : Byte := setBit (setBit p 1 (decide (v = 0))) 7 (v.getLsbD 7)

theorem setNZ_eq (v : Byte) (s : State) : setNZ v s = { s with p := withNZ v s.p } := rfl

theorem getLsbD_seven (v : Byte) : v.getLsbD 7 = decide (128 ≤ v.toNat) :=
  (BitVec.msb_eq_getLsbD_last v).symm.trans (BitVec.msb_eq_decide v)

theorem nz_of_ne {r i : Nat} (h1 : i ≠ 1) (h7 : i ≠ 7) : nz r i = none := by
  unfold nz
  split
  · exact absurd rfl h1
  · exact absurd rfl h7
  · rfl

theorem flags_withNZ (v p : Byte) : Flags p (withNZ v p) (nz v.toNat) := by
  intro i hi
  rw [withNZ, getLsbD_setBit _ _ _ _ hi, getLsbD_setBit _ _ _ _ hi, getLsbD_seven]
  by_cases h7 : i = 7
  · subst h7; rfl
  by_cases h1 : i = 1
  · subst h1; exact decide_eq_decide.mpr BitVec.toNat_inj.symm
  · rw [if_neg h7, if_neg h1, nz_of_ne h1 h7]; rfl

/-! ## The forms (R140 to R145) -/

section
variable (d : Byte) (a : Addr) (s : State)

theorem ldaForms_read : ∀ f ∈ ldaForms d a, Reads f s ldaOp := by
  apply forall_mem_eightForms <;> exact reads_row rfl rfl rfl rfl

theorem ldxForms_read : ∀ f ∈ ldxForms d a, Reads f s ldxOp := by
  simp only [ldxForms, List.forall_mem_cons, List.not_mem_nil, false_implies, implies_true, and_true]
  refine ⟨?_, ?_, ?_, ?_, ?_⟩ <;> exact reads_row rfl rfl rfl rfl

theorem ldyForms_read : ∀ f ∈ ldyForms d a, Reads f s ldyOp := by
  simp only [ldyForms, List.forall_mem_cons, List.not_mem_nil, false_implies, implies_true, and_true]
  refine ⟨?_, ?_, ?_, ?_, ?_⟩ <;> exact reads_row rfl rfl rfl rfl

theorem staForms_tabled : ∀ f ∈ staForms d a, Tabled f := by
  simp only [staForms, List.forall_mem_cons, List.not_mem_nil, false_implies, implies_true, and_true]
  refine ⟨?_, ?_, ?_, ?_, ?_, ?_, ?_⟩ <;> exact tabled_row rfl rfl rfl

theorem stxForms_tabled : ∀ f ∈ stxForms d a, Tabled f := by
  simp only [stxForms, List.forall_mem_cons, List.not_mem_nil, false_implies, implies_true, and_true]
  refine ⟨?_, ?_, ?_⟩ <;> exact tabled_row rfl rfl rfl

theorem styForms_tabled : ∀ f ∈ styForms d a, Tabled f := by
  simp only [styForms, List.forall_mem_cons, List.not_mem_nil, false_implies, implies_true, and_true]
  refine ⟨?_, ?_, ?_⟩ <;> exact tabled_row rfl rfl rfl

end

/-! ## The obligations -/

/-- A load writes its register with `put`, N and Z of the operand, and the cycles; the operand read kept the flags and the counter. -/
theorem Reads.load {f : Form} {s : State} {g : Byte → State → State} {put : Byte → Byte → Nat → State → State}
    (hg : ∀ n m t, addCycles n (g m t) = put m (withNZ m t.p) (t.cyc + n) t) (h : Reads f s g) :
    ∃ q, f.Encoded ∧ Flags s.p q (nz (f.src.read s).val.toNat) ∧
      exec f.instr s = .next (put (f.src.read s).val q (s.cyc + f.cycles + penalty (f.src.read s).crossed) (f.src.read s).st) := by
  have hread := srcRead_readFrame f.src s
  refine ⟨_, h.encoded, flags_withNZ _ _, ?_⟩
  rw [h.exec_eq, hg, hread.p_eq, hread.cyc_eq, Nat.add_assoc]

/-- Settles O1: each form reads its operand, and the load writes the register, N and Z over the state that the read left. -/
theorem loadResult : Obligations.LoadResult := fun d a s =>
  ⟨fun f hf => (ldaForms_read d a s f hf).load (put := fun m q n t => { t with a := m, p := q, cyc := n }) fun _ _ _ => rfl,
   fun f hf => (ldxForms_read d a s f hf).load (put := fun m q n t => { t with x := m, p := q, cyc := n }) fun _ _ _ => rfl,
   fun f hf => (ldyForms_read d a s f hf).load (put := fun m q n t => { t with y := m, p := q, cyc := n }) fun _ _ _ => rfl⟩

/-- A store: the pointer reads of its mode keep the register that it writes. -/
theorem Writes.store {f : MForm} {s : State} {v : State → Byte} (hv : v (f.mode.target s).st = v s) (h : Tabled f)
    (hw : Writes f s v) : f.Encoded ∧ exec f.instr s =
      .next (addCycles f.cycles (memWrite (adr (f.mode.target s).addr) (v s) (f.mode.target s).st)) :=
  ⟨h.encoded, hv ▸ hw.exec_eq h⟩

/-- Settles O2: each form is a write-type instruction without a penalty. -/
theorem storeResult : Obligations.StoreResult := fun d a s =>
  ⟨fun f hf => (staForms_writes d a s f hf).store (target_readFrame _ s).a_eq (staForms_tabled d a f hf),
   fun f hf => (stxForms_writes d a s f hf).store (target_readFrame _ s).x_eq (stxForms_tabled d a f hf),
   fun f hf => (styForms_writes d a s f hf).store (target_readFrame _ s).y_eq (styForms_tabled d a f hf)⟩

/-- Settles O3: a transfer is a load of a register, and TXS writes no flag. -/
theorem transferResult : Obligations.TransferResult := fun s =>
  ⟨⟨_, rfl, flags_withNZ s.a s.p, rfl⟩, ⟨_, rfl, flags_withNZ s.a s.p, rfl⟩, ⟨_, rfl, flags_withNZ s.x s.p, rfl⟩,
   ⟨_, rfl, flags_withNZ s.y s.p, rfl⟩, ⟨_, rfl, flags_withNZ s.sp s.p, rfl⟩, rfl, rfl⟩

end Sys2Proof.Machine
end

section
/-! PROOFS. What the operations of arithmetic, compares and BIT write, on the numbers of the rules (R160, R161, R165 to R168). -/

namespace Sys2Proof.Machine

open Sys2Proof.Spec

/-! ## Numbers and bytes -/

theorem byte_mod (n : Nat) : byte (n % 256) = byte n :=
  BitVec.eq_of_toNat_eq (Nat.mod_mod n 256)

theorem byte_toNat_add_255 (b : Byte) : byte (b.toNat + 255) = b - 1 := by
  apply BitVec.eq_of_toNat_eq
  rw [byte, BitVec.toNat_ofNat, BitVec.toNat_sub, Nat.add_comm]
  rfl

/-- R8: the wrapped value of a number that may be negative. -/
theorem ofInt_eq_byte {i : Int} {n : Nat} (h : i % 256 = (n % 256 : Nat)) : BitVec.ofInt 8 i = byte n := by
  apply BitVec.eq_of_toNat_eq
  rw [BitVec.toNat_ofInt, byte, BitVec.toNat_ofNat]
  exact (congrArg Int.toNat h).trans (Int.toNat_natCast _)

theorem carryIn_eq (p : Byte) : carryIn p = carry p := by
  rw [carryIn, carry, flagC]
  cases p.getLsbD 0 <;> rfl

theorem carry_le_one (p : Byte) : carry p ≤ 1 := by
  rw [carry]
  split <;> decide

theorem penalty_false : penalty false = 0 := rfl

theorem negative_eq (b : Byte) : negative b = b.getLsbD 7 := (getLsbD_seven b).symm

theorem toNat_xor_ff (m : Byte) : (m ^^^ 0xFF).toNat = 255 - m.toNat := by
  rw [show (0xFF : Byte) = BitVec.allOnes 8 from rfl, BitVec.xor_allOnes, BitVec.toNat_not]

theorem getLsbD_xor_ff_seven (m : Byte) : (m ^^^ 0xFF).getLsbD 7 = !m.getLsbD 7 := by
  rw [BitVec.getLsbD_xor]
  exact Bool.xor_true _

/-! ## The flags of a result (R13, R160, R161, R165, R168) -/

theorem flags_nzc (v p : Byte) (c : Bool) : Flags p (withNZ v (setBit p 0 c)) (nzc v.toNat c) := by
  intro i hi
  rw [flags_withNZ _ _ i hi, getLsbD_setBit _ _ _ _ hi]
  interval_cases i <;> rfl

theorem flags_nvzc (v p : Byte) (o c : Bool) : Flags p (withNZ v (setBit (setBit p 0 c) 6 o)) (nvzc v.toNat o c) := by
  intro i hi
  rw [flags_withNZ _ _ i hi, getLsbD_setBit _ _ _ _ hi, getLsbD_setBit _ _ _ _ hi]
  interval_cases i <;> rfl

/-! ## Addition and subtraction (R160, R161) -/

/-- The two signs that differ from the result's are equal, and it differs from them. -/
theorem overflow_eq (a m r : Byte) :
    ((a ^^^ r) &&& (m ^^^ r)).getLsbD 7 = (negative a == negative m && negative r != negative a) := by
  simp only [negative_eq, BitVec.getLsbD_and, BitVec.getLsbD_xor]
  generalize a.getLsbD 7 = x, m.getLsbD 7 = y, r.getLsbD 7 = z
  revert x y z
  decide

/-- R160 on the numbers of the rule: what ADC writes over the state that the operand read left. -/
theorem adcOp_result (m : Byte) (t : State) {sum : Nat} (hsum : t.a.toNat + m.toNat + carry t.p = sum) : ∃ q,
    Flags t.p q (nvzc (sum % 256) (negative t.a == negative m && negative (byte (sum % 256)) != negative t.a) (decide (255 < sum))) ∧
    adcOp m t = { t with a := byte (sum % 256), p := q } := by
  have hop : adcSum t.a m (carryIn t.p) = sum := by rw [carryIn_eq]; exact hsum
  refine ⟨_, flags_nvzc (byte sum) t.p _ _, ?_⟩
  rw [adcOp, hop, overflow_eq, byte_mod]
  rfl

/-- The exact sum with the complement is the exact difference plus 256 (R161, corner cases). -/
theorem adcSum_complement (a m : Byte) (c : Nat) : (adcSum a (m ^^^ 0xFF) c : Int) = sbcDiff a m c + 256 := by
  have hm := m.isLt
  rw [adcSum, sbcDiff, toNat_xor_ff]
  omega

/-- R161, corner cases: the operations agree on every state. -/
theorem sbcOp_eq_adcOp (m : Byte) (t : State) : sbcOp m t = adcOp (m ^^^ 0xFF) t := by
  have hsum := adcSum_complement t.a m (carryIn t.p)
  have hresult : BitVec.ofInt 8 (sbcDiff t.a m (carryIn t.p)) = BitVec.ofNat 8 (adcSum t.a (m ^^^ 0xFF) (carryIn t.p)) :=
    ofInt_eq_byte (by omega)
  have hcarry : decide (0 ≤ sbcDiff t.a m (carryIn t.p)) = decide (adcSum t.a (m ^^^ 0xFF) (carryIn t.p) > 255) :=
    decide_eq_decide.mpr (by omega)
  have hoverflow (r : Byte) : ((t.a ^^^ m) &&& (t.a ^^^ r)).getLsbD 7 = ((t.a ^^^ r) &&& ((m ^^^ 0xFF) ^^^ r)).getLsbD 7 := by
    rw [BitVec.getLsbD_and, BitVec.getLsbD_and, BitVec.getLsbD_xor (x := m ^^^ 0xFF), getLsbD_xor_ff_seven]
    simp only [BitVec.getLsbD_xor]
    generalize t.a.getLsbD 7 = x, m.getLsbD 7 = y, r.getLsbD 7 = z
    revert x y z
    decide
  simp only [sbcOp, adcOp, hresult, hcarry, hoverflow]

/-- R161 on the numbers of the rule: the sum of R160 for the complement, read as a difference. -/
theorem sbcOp_result (m : Byte) (t : State) {diff : Int} (hdiff : (t.a.toNat : Int) - m.toNat - (1 - carry t.p) = diff) : ∃ q,
    Flags t.p q (nvzc (diff % 256).toNat
      (negative t.a != negative m && negative (byte (diff % 256).toNat) != negative t.a) (decide (0 ≤ diff))) ∧
    sbcOp m t = { t with a := byte (diff % 256).toNat, p := q } := by
  have hsum := adcSum_complement t.a m (carry t.p)
  rw [sbcDiff, hdiff] at hsum
  have hresult : (diff % 256).toNat = adcSum t.a (m ^^^ 0xFF) (carry t.p) % 256 := by omega
  have hcarry : decide (0 ≤ diff) = decide (255 < adcSum t.a (m ^^^ 0xFF) (carry t.p)) := decide_eq_decide.mpr (by omega)
  have hsigns : (negative t.a != negative m) = (negative t.a == negative (m ^^^ 0xFF)) := by
    rw [negative_eq m, negative_eq (m ^^^ 0xFF), getLsbD_xor_ff_seven]
    cases negative t.a <;> cases m.getLsbD 7 <;> rfl
  rw [hresult, hcarry, hsigns, sbcOp_eq_adcOp]
  exact adcOp_result _ t rfl

/-! ## Compares and BIT (R165 to R168) -/

theorem compareOp_result (r m : Byte) (t : State) : ∃ q,
    Flags t.p q (nzc ((r.toNat + 256 - m.toNat) % 256) (decide (m.toNat ≤ r.toNat))) ∧ compareOp r m t = { t with p := q } := by
  have hr := r.isLt
  have hm := m.isLt
  have hresult : BitVec.ofInt 8 ((r.toNat : Int) - m.toNat) = byte (r.toNat + 256 - m.toNat) := ofInt_eq_byte (by omega)
  have hcarry : decide ((0 : Int) ≤ (r.toNat : Int) - m.toNat) = decide (m.toNat ≤ r.toNat) := decide_eq_decide.mpr (by omega)
  refine ⟨_, flags_nzc (byte (r.toNat + 256 - m.toNat)) t.p _, ?_⟩
  simp only [compareOp, hresult, hcarry]
  rfl

/-- The flag byte after BIT. -/
def withBit (z : Bool) (m p : Byte) : Byte := setBit (setBit (setBit p 1 z) 7 (m.getLsbD 7)) 6 (m.getLsbD 6)

theorem bitOp_eq (m : Byte) (t : State) : bitOp m t = { t with p := withBit (decide (t.a &&& m = 0)) m t.p } := rfl

theorem flags_withBit (z : Bool) (m p : Byte) : Flags p (withBit z m p) (fun i => match i with
    | 1 => some z
    | 6 => some (m.getLsbD 6)
    | 7 => some (m.getLsbD 7)
    | _ => none) := by
  intro i hi
  rw [withBit, getLsbD_setBit _ _ _ _ hi, getLsbD_setBit _ _ _ _ hi, getLsbD_setBit _ _ _ _ hi]
  interval_cases i <;> rfl

end Sys2Proof.Machine
end

section
/-! PROOFS. Arithmetic, logic, compares, increments and decrements: the forms and the obligations (R160 to R174). -/

namespace Sys2Proof.Machine

open Sys2Proof.Spec

/-! ## The forms (R160 to R170) -/

section
variable (d : Byte) (a : Addr) (s : State)

theorem adcForms_read : ∀ f ∈ adcForms d a, Reads f s adcOp := by
  apply forall_mem_eightForms <;> exact reads_row rfl rfl rfl rfl

theorem sbcForms_read : ∀ f ∈ sbcForms d a, Reads f s sbcOp := by
  apply forall_mem_eightForms <;> exact reads_row rfl rfl rfl rfl

theorem andForms_read : ∀ f ∈ andForms d a, Reads f s (fun m t => ldaOp (t.a &&& m) t) := by
  apply forall_mem_eightForms <;> exact reads_row rfl rfl rfl rfl

theorem oraForms_read : ∀ f ∈ oraForms d a, Reads f s (fun m t => ldaOp (t.a ||| m) t) := by
  apply forall_mem_eightForms <;> exact reads_row rfl rfl rfl rfl

theorem eorForms_read : ∀ f ∈ eorForms d a, Reads f s (fun m t => ldaOp (t.a ^^^ m) t) := by
  apply forall_mem_eightForms <;> exact reads_row rfl rfl rfl rfl

theorem cmpForms_read : ∀ f ∈ cmpForms d a, Reads f s (fun m t => compareOp t.a m t) := by
  apply forall_mem_eightForms <;> exact reads_row rfl rfl rfl rfl

theorem cpxForms_read : ∀ f ∈ cpxForms d a, Reads f s (fun m t => compareOp t.x m t) := by
  simp only [cpxForms, List.forall_mem_cons, List.not_mem_nil, false_implies, implies_true, and_true]
  refine ⟨?_, ?_, ?_⟩ <;> exact reads_row rfl rfl rfl rfl

theorem cpyForms_read : ∀ f ∈ cpyForms d a, Reads f s (fun m t => compareOp t.y m t) := by
  simp only [cpyForms, List.forall_mem_cons, List.not_mem_nil, false_implies, implies_true, and_true]
  refine ⟨?_, ?_, ?_⟩ <;> exact reads_row rfl rfl rfl rfl

theorem bitForms_read : ∀ f ∈ bitForms d a, Reads f s bitOp := by
  simp only [bitForms, List.forall_mem_cons, List.not_mem_nil, false_implies, implies_true, and_true]
  refine ⟨?_, ?_⟩ <;> exact reads_row rfl rfl rfl rfl

/-- BIT has no indexed form. -/
theorem bitForms_not_mayCross : ∀ f ∈ bitForms d a, mayCross f.src = false := by
  simp only [bitForms, List.forall_mem_cons, List.not_mem_nil, false_implies, implies_true, and_true]
  exact ⟨rfl, rfl⟩

theorem incForms_tabled : ∀ f ∈ incForms d a, Tabled f := by
  apply forall_mem_fourForms <;> exact tabled_row rfl rfl rfl

theorem decForms_tabled : ∀ f ∈ decForms d a, Tabled f := by
  apply forall_mem_fourForms <;> exact tabled_row rfl rfl rfl

end

/-- The immediate form is the cheapest. -/
theorem two_le_cycles_of_mem_eightForms {ops : Fin 8 → Nat} {imm zp zpx : Byte → Instr} {ab abx aby : Addr → Instr}
    {izx izy : Byte → Instr} {d : Byte} {a : Addr} : ∀ f ∈ eightForms ops imm zp zpx ab abx aby izx izy d a, 2 ≤ f.cycles := by
  apply forall_mem_eightForms <;> exact Nat.le_add_left 2 _

/-! ## The next state of a form -/

/-- The operation on the state that the operand read left gives the next state, but for the cycles of the rule. -/
theorem Reads.result {f : Form} {s u : State} {g : Byte → State → State} (h : Reads f s g)
    (hg : g (f.src.read s).val (f.src.read s).st = u) (hcyc : u.cyc = (f.src.read s).st.cyc) :
    exec f.instr s = .next { u with cyc := s.cyc + f.cycles + penalty (f.src.read s).crossed } := by
  rw [h.exec_eq, hg, addCycles, hcyc, (srcRead_readFrame f.src s).cyc_eq, Nat.add_assoc]

/-- R17: one read and one write of the effective address, N and Z of the byte written, and the cycles of the rule. -/
theorem Modifies.exec_eq {f : MForm} {s : State} {g : Byte → State → Byte × State} (hm : Modifies f s g) (h : Tabled f) :
    exec f.instr s =
      let m := memRead (adr (f.mode.target s).addr) (f.mode.target s).st
      let r := g m.1 m.2
      .next (addCycles f.cycles (setNZ r.1 (memWrite (adr (f.mode.target s).addr) r.1 r.2))) := by
  rw [Modifies, modifyMem, h.opCycles_eq, modeEa_eq] at hm
  exact hm

/-! ## The obligations -/

/-- Settles O4: the operand read keeps A and P, so ADC adds the numbers of the rule. -/
theorem adcResult : Obligations.AdcResult := by
  intro d a s f hf
  have h := adcForms_read d a s f hf
  have hread := srcRead_readFrame f.src s
  obtain ⟨q, hq, hop⟩ := adcOp_result (f.src.read s).val (f.src.read s).st rfl
  rw [hread.a_eq, hread.p_eq] at hq hop
  exact ⟨q, h.encoded, hq, h.result hop rfl⟩

/-- Settles O5: the same with the difference of the rule. -/
theorem sbcResult : Obligations.SbcResult := by
  intro d a s f hf
  have h := sbcForms_read d a s f hf
  have hread := srcRead_readFrame f.src s
  obtain ⟨q, hq, hop⟩ := sbcOp_result (f.src.read s).val (f.src.read s).st rfl
  rw [hread.a_eq, hread.p_eq] at hq hop
  exact ⟨q, h.encoded, hq, h.result hop rfl⟩

/-- ADC does not read the cycle counter, and its immediate form charges 2 cycles. -/
theorem exec_adcImm_of_two_le (m : Byte) (t : State) {n : Nat} (h : 2 ≤ n) :
    exec (.adcImm m) { t with cyc := n - 2 } = .next { adcOp m t with cyc := n } :=
  calc exec (.adcImm m) { t with cyc := n - 2 } = .next { adcOp m t with cyc := n - 2 + 2 } := rfl
    _ = .next { adcOp m t with cyc := n } := by rw [Nat.sub_add_cancel h]

/-- Settles O6: the operations agree on the state that the operand read left, and ADC immediate charges the 2 cycles taken off. -/
theorem sbcIsAdcOfComplement : Obligations.SbcIsAdcOfComplement := by
  intro d a s f hf
  have hcycles := two_le_cycles_of_mem_eightForms f hf
  have hcharge : 2 ≤ s.cyc + f.cycles + penalty (f.src.read s).crossed := by omega
  rw [(sbcForms_read d a s f hf).result (sbcOp_eq_adcOp _ _) rfl]
  exact (exec_adcImm_of_two_le _ _ hcharge).symm

/-- AND, ORA, EOR: the result of an operation that works bit by bit is loaded into A. -/
theorem Reads.logic {f : Form} {s : State} {op : Byte → Byte → Byte} {bit : Bool → Bool → Bool}
    (hbit : ∀ (x y : Byte) (i : Nat), (op x y).getLsbD i = bit (x.getLsbD i) (y.getLsbD i))
    (h : Reads f s (fun m t => ldaOp (op t.a m) t)) : ∃ q r, let o := f.src.read s
      f.Encoded ∧ (∀ i, i < 8 → r.getLsbD i = bit (s.a.getLsbD i) (o.val.getLsbD i)) ∧ Flags s.p q (nz r.toNat) ∧
      exec f.instr s = .next { o.st with a := r, p := q, cyc := s.cyc + f.cycles + penalty o.crossed } := by
  have hread := srcRead_readFrame f.src s
  refine ⟨_, _, h.encoded, fun i _ => hbit s.a (f.src.read s).val i, flags_withNZ _ _, ?_⟩
  rw [h.result rfl rfl, ← hread.a_eq, ← hread.p_eq]
  rfl

/-- Settles O7. -/
theorem logicResult : Obligations.LogicResult := fun d a s =>
  ⟨fun f hf => (andForms_read d a s f hf).logic fun _ _ _ => BitVec.getLsbD_and,
   fun f hf => (oraForms_read d a s f hf).logic fun _ _ _ => BitVec.getLsbD_or,
   fun f hf => (eorForms_read d a s f hf).logic fun _ _ _ => BitVec.getLsbD_xor⟩

/-- CMP, CPX, CPY: the operand read keeps the register that is compared. -/
theorem Reads.compare {f : Form} {s : State} {reg : State → Byte} (hreg : reg (f.src.read s).st = reg s)
    (h : Reads f s (fun m t => compareOp (reg t) m t)) : ∃ q, let o := f.src.read s
      f.Encoded ∧ Flags s.p q (nzc (((reg s).toNat + 256 - o.val.toNat) % 256) (decide (o.val.toNat ≤ (reg s).toNat))) ∧
      exec f.instr s = .next { o.st with p := q, cyc := s.cyc + f.cycles + penalty o.crossed } := by
  obtain ⟨q, hq, hop⟩ := compareOp_result (reg s) (f.src.read s).val (f.src.read s).st
  rw [(srcRead_readFrame f.src s).p_eq] at hq
  rw [← hreg] at hop
  exact ⟨q, h.encoded, hq, h.result hop rfl⟩

/-- Settles O8, register by register. -/
theorem compareResult : Obligations.CompareResult := by
  intro d a s r forms hmem f hf
  have hread := srcRead_readFrame f.src s
  simp only [List.mem_cons, Prod.mk.injEq, List.not_mem_nil, or_false] at hmem
  obtain ⟨rfl, rfl⟩ | ⟨rfl, rfl⟩ | ⟨rfl, rfl⟩ := hmem
  · exact (cmpForms_read d a s f hf).compare hread.a_eq
  · exact (cpxForms_read d a s f hf).compare hread.x_eq
  · exact (cpyForms_read d a s f hf).compare hread.y_eq

/-- Settles O9: BIT writes three flags, and neither of its forms can cross a page. -/
theorem bitResult : Obligations.BitResult := by
  intro d a s f hf
  have h := bitForms_read d a s f hf
  have hread := srcRead_readFrame f.src s
  refine ⟨_, h.encoded, flags_withBit _ _ _, ?_⟩
  rw [h.result (bitOp_eq _ _) rfl, crossed_of_not_mayCross (bitForms_not_mayCross d a f hf), penalty_false, Nat.add_zero,
    ← hread.a_eq, ← hread.p_eq]

/-- INC, DEC: the byte read plus `k`, modulo 256, is written back; neither bus access changes P. -/
theorem Modifies.step {f : MForm} {s : State} {k : Nat} (hm : Modifies f s (fun m t => (byte (m.toNat + k), t))) (h : Tabled f) :
    ∃ q,
      let t := f.mode.target s
      let m := memRead (adr t.addr) t.st
      let r := (m.1.toNat + k) % 256
      let w := memWrite (adr t.addr) (byte r) m.2
      f.Encoded ∧ Flags s.p q (nz r) ∧ exec f.instr s = .next { w with p := q, cyc := w.cyc + f.cycles } := by
  refine ⟨_, h.encoded, flags_withNZ (byte _) s.p, ?_⟩
  simp only [hm.exec_eq h, setNZ_eq, memWrite_p, memRead_p, (target_readFrame f.mode s).p_eq, byte_mod]
  rfl

/-- Settles O10: a decrement adds 255. -/
theorem incDecResult : Obligations.IncDecResult := by
  intro d a s k forms hmem f hf
  simp only [List.mem_cons, Prod.mk.injEq, List.not_mem_nil, or_false] at hmem
  obtain ⟨rfl, rfl⟩ | ⟨rfl, rfl⟩ := hmem
  · exact Modifies.step (incForms_modify d a s f hf) (incForms_tabled d a f hf)
  · have hop : decOp = fun m t => (byte (m.toNat + 255), t) := by
      funext m t
      rw [byte_toNat_add_255, decOp]
    exact Modifies.step (hop ▸ decForms_modify d a s f hf) (decForms_tabled d a f hf)

/-- Settles O11: each is a load of the stepped register. -/
theorem indexStepResult : Obligations.IndexStepResult := by
  intro s
  refine ⟨⟨_, rfl, flags_withNZ (byte (s.x.toNat + 1)) s.p, rfl⟩, ⟨_, rfl, flags_withNZ (byte (s.y.toNat + 1)) s.p, rfl⟩,
    ⟨_, rfl, flags_withNZ (byte (s.x.toNat + 255)) s.p, ?_⟩, ⟨_, rfl, flags_withNZ (byte (s.y.toNat + 255)) s.p, ?_⟩⟩
  · rw [byte_toNat_add_255]
    rfl
  · rw [byte_toNat_add_255]
    rfl

end Sys2Proof.Machine
end

section
/-! PROOFS. No bus access reads or writes P (R10, R71, R72), so a write of C commutes with the write of a shifted operand. -/

namespace Sys2Proof.Machine

/-- The state with the flag byte `q`. -/
def withP (q : Byte) (s : State) : State := { s with p := q }

@[simp] theorem withP_ppu (q : Byte) (s : State) : (withP q s).ppu = s.ppu := rfl

theorem setC_eq_withP (b : Bool) (s : State) : setC b s = withP (setBit s.p 0 b) s := rfl

/-! ## Bus reads (R71, R72) -/

theorem apuRead_withP (q : Byte) (n : Nat) (s : State) : apuRead n (withP q s) = ((apuRead n s).1, withP q (apuRead n s).2) := by
  unfold apuRead
  split
  · rfl
  split
  · rfl
  split <;> rfl

theorem deviceRead_withP (q : Byte) (dev : Device) (n : Nat) (s : State) :
    deviceRead dev n (withP q s) = ((deviceRead dev n s).1, withP q (deviceRead dev n s).2) := by
  cases dev with
  | apuIo => exact apuRead_withP q n s
  | wram | ppuPorts | openDev | saveRam | prg base => rfl

theorem memRead_withP (q : Byte) (a : Addr) (s : State) : memRead a (withP q s) = ((memRead a s).1, withP q (memRead a s).2) :=
  deviceRead_withP q _ _ s

/-! ## The sample reader and the sprite DMA (R372, R380, R386) -/

theorem dmcRefill_withP (q : Byte) (s : State) : dmcRefill (withP q s) = withP q (dmcRefill s) := by
  unfold dmcRefill
  rw [memRead_withP, apply_ite (withP q), apply_ite (withP q)]
  rfl

theorem dmcStart_withP (q d : Byte) (s : State) : dmcStart d (withP q s) = withP q (dmcStart d s) := by
  unfold dmcStart
  rw [apply_ite (withP q), ← dmcRefill_withP]
  rfl

theorem oamDmaByte_withP (q d base : Byte) (s : State) (i : Nat) :
    oamDmaByte d base (withP q s) i = withP q (oamDmaByte d base s i) := by
  unfold oamDmaByte
  rw [memRead_withP]
  rfl

theorem addCycles_withP (q : Byte) (n : Nat) (s : State) : addCycles n (withP q s) = withP q (addCycles n s) := rfl

theorem oamDma_withP (q d : Byte) (s : State) : oamDma d (withP q s) = withP q (oamDma d s) := by
  unfold oamDma
  rw [withP_ppu, List.foldl_hom (withP q) (oamDmaByte_withP q d s.ppu.oamAddr), addCycles_withP]

/-! ## The mapper (R421 to R426, R436) -/

theorem applyMirroring_withP (q : Byte) (s : State) : applyMirroring (withP q s) = withP q (applyMirroring s) := by
  unfold applyMirroring
  rw [apply_ite (withP q)]
  rfl

theorem pushChr_withP (q : Byte) (a base n : Nat) (s : State) : pushChr a base n (withP q s) = withP q (pushChr a base n s) := rfl

theorem applyChr_withP (q : Byte) (s : State) : applyChr (withP q s) = withP q (applyChr s) := by
  unfold applyChr
  rw [pushChr_withP, pushChr_withP, apply_ite (withP q)]
  rfl

theorem applyPrg_withP (q : Byte) (s : State) : applyPrg (withP q s) = withP q (applyPrg s) := rfl

theorem mmcLoad_withP (q : Byte) (a : Addr) (v : BitVec 5) (s : State) : mmcLoad a v (withP q s) = withP q (mmcLoad a v s) := by
  unfold mmcLoad
  split
  · rw [← applyChr_withP, ← applyPrg_withP, ← applyMirroring_withP]
    rfl
  · exact applyChr_withP q { s with mapper := { s.mapper with mmcChr0 := v } }
  · exact applyChr_withP q { s with mapper := { s.mapper with mmcChr1 := v } }
  · rfl

theorem mmcWrite_withP (q : Byte) (a : Addr) (d : Byte) (s : State) : mmcWrite a d (withP q s) = withP q (mmcWrite a d s) := by
  unfold mmcWrite
  split
  · rfl
  · rw [apply_ite (withP q), ← mmcLoad_withP]
    rfl

theorem mapperWrite_withP (q : Byte) (a : Addr) (d : Byte) (s : State) :
    mapperWrite a d (withP q s) = withP q (mapperWrite a d s) := by
  unfold mapperWrite
  rw [apply_ite (withP q), ← mmcWrite_withP]
  rfl

/-! ## Bus writes (R71) -/

theorem apuWrite_withP (q : Byte) (n : Nat) (d : Byte) (s : State) : apuWrite n d (withP q s) = withP q (apuWrite n d s) := by
  unfold apuWrite
  split
  · rfl
  split
  · exact oamDma_withP q d s
  split
  · exact dmcStart_withP q d { s with apu := s.apu.writeEnables d }
  split
  · rfl
  split <;> rfl

theorem deviceWrite_withP (q : Byte) (dev : Device) (n : Nat) (a : Addr) (d : Byte) (s : State) :
    deviceWrite dev n a d (withP q s) = withP q (deviceWrite dev n a d s) := by
  cases dev with
  | apuIo => exact apuWrite_withP q n d s
  | prg base => exact mapperWrite_withP q a d s
  | wram | ppuPorts | openDev | saveRam => rfl

theorem memWrite_withP (q : Byte) (a : Addr) (d : Byte) (s : State) : memWrite a d (withP q s) = withP q (memWrite a d s) :=
  deviceWrite_withP q _ _ a d s

end Sys2Proof.Machine
end

section
/-! PROOFS. Shift and rotate: the operations on the numbers of the rules, the forms and the obligation (R190 to R193). -/

namespace Sys2Proof.Machine

open Sys2Proof.Spec

/-! ## The operations on numbers -/

theorem byte_toNat (b : Byte) : byte b.toNat = b := BitVec.ofNat_toNat 8 b

theorem getLsbD_zero_eq (m : Byte) : m.getLsbD 0 = decide (m.toNat % 2 = 1) := by
  rw [← BitVec.testBit_toNat, Nat.testBit_zero]

theorem toNat_flagC (p : Byte) : (flagC p).toNat = carry p := carryIn_eq p

theorem toNat_shiftLeft_one (m : Byte) : (m <<< 1).toNat = 2 * m.toNat % 256 := by
  rw [BitVec.toNat_shiftLeft, Nat.shiftLeft_eq, Nat.mul_comm]

theorem toNat_ushiftRight_one (m : Byte) : (m >>> 1).toNat = m.toNat / 2 := by
  rw [BitVec.toNat_ushiftRight, Nat.shiftRight_eq_div_pow]

/-- The operation `op` is the rule `g`: its result is the number of the rule, and it writes the bit shifted out to C and nothing else. -/
structure Shifts (op : Byte → State → Byte × State) (g : Nat → Nat → Nat × Bool) : Prop where
  result : ∀ m t, (op m t).1.toNat = (g m.toNat (carry t.p)).1
  carryOut : ∀ m t, (op m t).2 = setC (g m.toNat (carry t.p)).2 t

theorem aslOp_shifts : Shifts aslOp aslOf where
  result m _ := toNat_shiftLeft_one m
  carryOut m t := congrArg (setC · t) (getLsbD_seven m)

theorem lsrOp_shifts : Shifts lsrOp lsrOf where
  result m _ := toNat_ushiftRight_one m
  carryOut m t := congrArg (setC · t) (getLsbD_zero_eq m)

/-- Bit 0 of twice a number is free for the old carry. -/
theorem rolOp_shifts : Shifts rolOp rolOf where
  result m t := by
    rw [rolOp, toNat_setBit _ _ _ (by decide), toNat_flagC, toNat_shiftLeft_one, rolOf]
    omega
  carryOut m t := congrArg (setC · t) (getLsbD_seven m)

/-- Bit 7 of a halved byte is free for the old carry. -/
theorem rorOp_shifts : Shifts rorOp rorOf where
  result m t := by
    have hm := m.isLt
    rw [rorOp, toNat_setBit _ _ _ (by decide), toNat_flagC, toNat_ushiftRight_one, rorOf]
    omega
  carryOut m t := congrArg (setC · t) (getLsbD_zero_eq m)

/-! ## The forms of an operation -/

/-- R190 to R193: the write of the operand and the flag writes around it, as one update of the state that the operand read left. -/
theorem addCycles_setNZ_memWrite_setC (n : Nat) (a : Addr) (r : Byte) (c : Bool) (t : State) :
    addCycles n (setNZ r (memWrite a r (setC c t))) =
      { memWrite a r t with p := withNZ r (setBit t.p 0 c), cyc := (memWrite a r t).cyc + n } := by
  rw [setC_eq_withP, memWrite_withP]
  rfl

section
variable {op : Byte → State → Byte × State} {g : Nat → Nat → Nat × Bool} (h : Shifts op g)
include h

theorem Shifts.op_eq (m : Byte) (t : State) :
    op m t = (byte (g m.toNat (carry t.p)).1, setC (g m.toNat (carry t.p)).2 t) :=
  Prod.ext (by rw [← h.result, byte_toNat]) (h.carryOut m t)

/-- C of the bit shifted out, N and Z of the result. -/
theorem Shifts.flags (m : Byte) (s : State) :
    let r := g m.toNat (carry s.p)
    Flags s.p (withNZ (byte r.1) (setBit s.p 0 r.2)) (nzc r.1 r.2) := by
  have hflags := flags_nzc (op m s).1 s.p (g m.toNat (carry s.p)).2
  rw [h.result, h.op_eq] at hflags
  exact hflags

/-- The accumulator form: no bus access, 2 cycles. -/
theorem Shifts.accumulator {i : Instr} {n : Byte} {s : State} (bytes : encode i = [n])
    (meaning : exec i s = .next (modifyAcc n op s)) (cycles : opCycles n false = 2) : ∃ q,
    let r := g s.a.toNat (carry s.p)
    encode i = [n] ∧ Flags s.p q (nzc r.1 r.2) ∧ exec i s = .next { s with a := byte r.1, p := q, cyc := s.cyc + 2 } := by
  refine ⟨_, bytes, h.flags s.a s, ?_⟩
  rw [meaning, modifyAcc, cycles, h.op_eq]
  rfl

/-- A memory form: C is written between the read and the write of the operand, and neither bus access reads or changes P. -/
theorem Shifts.memory {f : MForm} {s : State} (hm : Modifies f s op) (hf : Tabled f) : ∃ q,
    let t := f.mode.target s
    let m := memRead (adr t.addr) t.st
    let r := g m.1.toNat (carry s.p)
    let w := memWrite (adr t.addr) (byte r.1) m.2
    f.Encoded ∧ Flags s.p q (nzc r.1 r.2) ∧ exec f.instr s = .next { w with p := q, cyc := w.cyc + f.cycles } := by
  refine ⟨_, hf.encoded, h.flags _ s, ?_⟩
  simp only [hm.exec_eq hf, h.op_eq, addCycles_setNZ_memWrite_setC, memRead_p, (target_readFrame f.mode s).p_eq]

end

/-! ## The rows of the tables -/

section
variable (d : Byte) (a : Addr)

theorem aslForms_tabled : ∀ f ∈ aslForms d a, Tabled f := by
  apply forall_mem_fourForms <;> exact tabled_row rfl rfl rfl

theorem lsrForms_tabled : ∀ f ∈ lsrForms d a, Tabled f := by
  apply forall_mem_fourForms <;> exact tabled_row rfl rfl rfl

theorem rolForms_tabled : ∀ f ∈ rolForms d a, Tabled f := by
  apply forall_mem_fourForms <;> exact tabled_row rfl rfl rfl

theorem rorForms_tabled : ∀ f ∈ rorForms d a, Tabled f := by
  apply forall_mem_fourForms <;> exact tabled_row rfl rfl rfl

end

/-! ## The obligation -/

/-- Settles O12, shift by shift. -/
theorem shiftResult : Obligations.ShiftResult := by
  intro d a s i op forms g hmem
  simp only [List.mem_cons, Prod.mk.injEq, List.not_mem_nil, or_false] at hmem
  obtain ⟨rfl, rfl, rfl, rfl⟩ | ⟨rfl, rfl, rfl, rfl⟩ | ⟨rfl, rfl, rfl, rfl⟩ | ⟨rfl, rfl, rfl, rfl⟩ := hmem
  · exact ⟨aslOp_shifts.accumulator rfl rfl rfl, fun f hf => aslOp_shifts.memory (aslForms_modify d a s f hf) (aslForms_tabled d a f hf)⟩
  · exact ⟨lsrOp_shifts.accumulator rfl rfl rfl, fun f hf => lsrOp_shifts.memory (lsrForms_modify d a s f hf) (lsrForms_tabled d a f hf)⟩
  · exact ⟨rolOp_shifts.accumulator rfl rfl rfl, fun f hf => rolOp_shifts.memory (rolForms_modify d a s f hf) (rolForms_tabled d a f hf)⟩
  · exact ⟨rorOp_shifts.accumulator rfl rfl rfl, fun f hf => rorOp_shifts.memory (rorForms_modify d a s f hf) (rorForms_tabled d a f hf)⟩

end Sys2Proof.Machine
end

section
/-! PROOFS. The stack in the words of the statements, and the stack page as bytes of work RAM (R12, R73, R74). -/

namespace Sys2Proof.Machine

open Sys2Proof.Spec

/-! ## Words and stack positions as numbers -/

theorem word_eq_adr (h l : Byte) : word h l = adr (256 * h.toNat + l.toNat) := by
  rw [← toNat_word, adr_toNat]

theorem toNat_stackAddr (sp : Byte) : (stackAddr sp).toNat = 256 + sp.toNat := toNat_word 0x01 sp

theorem stackAddr_eq_adr (sp : Byte) : stackAddr sp = adr (256 + sp.toNat) := word_eq_adr 0x01 sp

theorem toNat_add_one (b : Byte) : (b + 1).toNat = (b.toNat + 1) % 256 := BitVec.toNat_add b 1

theorem toNat_sub_one (b : Byte) : (b - 1).toNat = (b.toNat + 255) % 256 := by
  rw [← byte_toNat_add_255, byte, BitVec.toNat_ofNat]

/-! ## Pushes and pulls of the statements -/

theorem pushed_eq (v : Byte) (s : State) : pushed v s = push v s := by
  simp only [pushed, push, stackAddr_eq_adr, byte_toNat_add_255, memWrite_sp]

theorem pulled_eq (s : State) : pulled s = pull s := by
  simp only [pulled, pull, stackAddr_eq_adr, byte_toNat_add_one, toNat_add_one]

/-- R201: a word is pushed high byte first. -/
theorem push16_eq_pushed (v : Addr) (s : State) : push16 v s = pushed (low v) (pushed (high v) s) := by
  rw [push16, loByte_eq_byte, hiByte_eq_byte, pushed_eq, pushed_eq]
  rfl

/-- R202: a word is pulled low byte first. -/
theorem pull16_eq_pulled (s : State) :
    pull16 s = (adr (256 * (pulled (pulled s).2).1.toNat + (pulled s).1.toNat), (pulled (pulled s).2).2) := by
  simp only [pull16, pulled_eq, word_eq_adr]

/-! ## The stack page -/

/-- The bus table gives the stack page to work RAM (R73, R74); no register or flag is part of it. -/
def StackInWram (m : List BusRange) : Prop := ∀ sp : Byte, BusMap.lookup m (stackAddr sp).toNat = (.wram, 256 + sp.toNat)

theorem State.Inv.stackInWram {s : State} (h : s.Inv) : StackInWram s.busMap := by
  intro sp
  have hsp := sp.isLt
  rw [toNat_stackAddr, lookup_wram h (by omega)]

/-- The byte of work RAM at a stack position. -/
def stackByte (m : Memory) (sp : Byte) : Byte := Memory.read m (256 + sp.toNat)

theorem stackByte_stackStore (m : Memory) (n : Nat) (v sp : Byte) :
    stackByte (stackStore m n v) sp = if sp.toNat = n % 256 then v else stackByte m sp := by
  simp only [stackByte, stackStore, Memory.read_write, Nat.add_left_cancel_iff]

@[simp] theorem stackByte_stackStore_self (m : Memory) (sp v : Byte) : stackByte (stackStore m sp.toNat v) sp = v :=
  (stackByte_stackStore ..).trans (if_pos (Nat.mod_eq_of_lt sp.isLt).symm)

/-- The positions of a pushed word: the low byte one below the high byte, modulo 256. -/
@[simp] theorem stackByte_stackStore_below (m : Memory) (sp v : Byte) :
    stackByte (stackStore m (sp.toNat + 255) v) (sp - 1) = v :=
  (stackByte_stackStore ..).trans (if_pos (toNat_sub_one sp))

@[simp] theorem stackByte_stackStore_above (m : Memory) (sp v : Byte) :
    stackByte (stackStore m (sp.toNat + 255) v) sp = stackByte m sp :=
  (stackByte_stackStore ..).trans (if_neg (by have := sp.isLt; omega))

theorem stackStore_mod (m : Memory) (n : Nat) (v : Byte) : stackStore m (n % 256) v = stackStore m n v := by
  rw [stackStore, stackStore, Nat.mod_mod]

section
variable {s : State} (h : StackInWram s.busMap)
include h

theorem StackInWram.push_eq (v : Byte) :
    push v s = { s with wram := stackStore s.wram s.sp.toNat v, sp := s.sp - 1 } := by
  have hsp := s.sp.isLt
  have hcell : (256 + s.sp.toNat) % 2048 = 256 + s.sp.toNat % 256 := by omega
  rw [push, memWrite_of_wram (h s.sp), hcell]
  rfl

theorem StackInWram.pull_eq : pull s = (stackByte s.wram (s.sp + 1), { s with sp := s.sp + 1 }) := by
  have hsp := (s.sp + 1).isLt
  have hcell : (256 + (s.sp + 1).toNat) % 2048 = 256 + (s.sp + 1).toNat := by omega
  simp only [pull, memRead, h (s.sp + 1), deviceRead, hcell]
  rfl

theorem StackInWram.push16_eq (v : Addr) : push16 v s = { s with
    wram := stackStore (stackStore s.wram s.sp.toNat (high v)) (s.sp.toNat + 255) (low v), sp := s.sp - 1 - 1 } := by
  have hlow : StackInWram (push (high v) s).busMap := by rw [h.push_eq]; exact h
  rw [push16_eq_pushed, pushed_eq, pushed_eq, hlow.push_eq, h.push_eq]
  simp only [toNat_sub_one, stackStore_mod]

theorem StackInWram.pull16_eq : pull16 s =
    (word (stackByte s.wram (s.sp + 1 + 1)) (stackByte s.wram (s.sp + 1)), { s with sp := s.sp + 1 + 1 }) := by
  have hhigh : StackInWram (pull s).2.busMap := by rw [pull_busMap]; exact h
  rw [pull16, hhigh.pull_eq, h.pull_eq]

end

end Sys2Proof.Machine
end

section
/-! PROOFS. Control transfer: jumps, subroutine calls and branches (R119, R124, R125, R200 to R211). -/

namespace Sys2Proof.Machine

open Sys2Proof.Spec

/-! ## Jumps (R200) -/

theorem low_eq (a : Addr) : low a = loByte a := (loByte_eq_byte a).symm
theorem high_eq (a : Addr) : high a = hiByte a := (hiByte_eq_byte a).symm

/-- R124: the low byte of the pointer plus one, modulo 256, in the pointer's page. -/
theorem indirectHiAddr_eq (a : Addr) : indirectHiAddr a = adr (a.toNat / 256 * 256 + (a.toNat + 1) % 256) := by
  have hword : indirectHiAddr a = word (hiByte a) (loByte a + 1) := rfl
  rw [hword, word_eq_adr, toNat_hiByte, toNat_add_one, toNat_loByte, Nat.mod_add_mod, Nat.mul_comm]

/-- Settles O13: the indirect form reads its pointer's two bytes in order. -/
theorem jmpResult : Obligations.JmpResult := by
  intro a s
  rw [low_eq, high_eq]
  refine ⟨rfl, rfl, rfl, ?_⟩
  have hmeaning : exec (.jmpInd a) s = .next (addCycles 5 { (eaInd a s).2 with pc := (eaInd a s).1.addr }) := rfl
  have hcyc := eaInd_cyc a s
  rw [hmeaning, addCycles, hcyc, eaInd, indirectHiAddr_eq, word_eq_adr]

/-! ## Subroutines (R201, R202) -/

theorem adr_toNat_add_65535 (a : Addr) : adr (a.toNat + 65535) = a - 1 := by
  rw [adr_toNat_add, BitVec.sub_eq_add_neg]
  rfl

theorem adr_add_one (n : Nat) : adr n + 1 = adr (n + 1) := (BitVec.ofNat_add n 1).symm

theorem exec_jsrAbs (a : Addr) (s : State) :
    exec (.jsrAbs a) s = .next (addCycles 6 { push16 (s.pc - 1) s with pc := a }) := rfl

theorem exec_rts (s : State) : exec .rts s = .next { (pull16 s).2 with pc := (pull16 s).1 + 1, cyc := s.cyc + 6 } := by
  rw [← pull16_cyc s]
  rfl

/-- Settles O14: JSR pushes a word and RTS pulls one. -/
theorem jsrRtsResult : Obligations.JsrRtsResult := by
  intro a s
  rw [low_eq a, high_eq a, adr_toNat_add_65535]
  refine ⟨rfl, rfl, ?_, ?_⟩
  · rw [exec_jsrAbs, push16_eq_pushed, addCycles]
  · rw [exec_rts, pull16_eq_pulled]
    dsimp only
    rw [adr_add_one]

/-! ## Branches (R203 to R211) -/

/-- R8: the signed reading of an offset, modulo 65536. -/
theorem toNat_signExtend8 (d : Byte) : (signExtend8 d).toNat = if d.toNat < 128 then d.toNat else d.toNat + 65280 := by
  have hd := d.isLt
  rw [signExtend8, BitVec.toNat_signExtend, BitVec.toNat_setWidth, BitVec.msb_eq_decide]
  simp only [decide_eq_true_eq]
  split <;> split <;> omega

theorem toNat_eaRel (d : Byte) (s : State) : (eaRel d s).addr.toNat = branchTarget s.pc.toNat d.toNat := by
  have hpc := s.pc.isLt
  have hd := d.isLt
  have hsum : (eaRel d s).addr.toNat = (s.pc.toNat + (signExtend8 d).toNat) % 65536 := BitVec.toNat_add _ _
  rw [hsum, toNat_signExtend8, branchTarget]
  split <;> omega

theorem eaRel_addr (d : Byte) (s : State) : (eaRel d s).addr = adr (branchTarget s.pc.toNat d.toNat) := by
  rw [← toNat_eaRel, adr_toNat]

/-- R203: crossed when the target's page is not that of the next instruction. -/
theorem eaRel_crossed (d : Byte) (s : State) :
    (eaRel d s).crossed = decide (branchTarget s.pc.toNat d.toNat / 256 ≠ s.pc.toNat / 256) := by
  rw [← toNat_eaRel, ← toNat_hiByte, ← toNat_hiByte]
  simp only [eaRel, ne_eq, BitVec.toNat_inj]

/-- What a branch does, by its condition and the page of its target. -/
theorem branch_eq {op : Byte} (base : cycleTable op = 2) (d : Byte) (cond : Bool) (s : State) :
    let target := branchTarget s.pc.toNat d.toNat
    branch op d cond s = if cond = true
      then { s with pc := adr target, cyc := s.cyc + (if target / 256 = s.pc.toNat / 256 then 3 else 4) }
      else { s with cyc := s.cyc + 2 } := by
  simp only [branch, base, addCycles, eaRel_addr, eaRel_crossed]
  cases cond with
  | false => rfl
  | true => by_cases hpage : branchTarget s.pc.toNat d.toNat / 256 = s.pc.toNat / 256 <;> simp [hpage]

/-- A row of the table: its bytes, its meaning, and the flag bit `i` whose value `v` is the condition. -/
theorem branch_row {b : Instr} {op : Byte} {i : Nat} {v cond : Bool} {d : Byte} {s : State} (bytes : encode b = [op, d])
    (meaning : exec b s = .next (branch op d cond s)) (base : cycleTable op = 2) (test : cond = true ↔ s.p.getLsbD i = v) :
    let target := branchTarget s.pc.toNat d.toNat
    encode b = [op, d] ∧ exec b s =
      if s.p.getLsbD i = v then
        .next { s with pc := adr target, cyc := s.cyc + (if target / 256 = s.pc.toNat / 256 then 3 else 4) }
      else .next { s with cyc := s.cyc + 2 } := by
  refine ⟨bytes, ?_⟩
  rw [meaning, branch_eq base, apply_ite Host.Outcome.next]
  simp only [test]

/-- Settles O15, row by row: a branch on a clear flag negates it. -/
theorem branchResult : Obligations.BranchResult := by
  intro d s
  simp only [branches, List.forall_mem_cons, List.not_mem_nil, false_implies, implies_true, and_true]
  have hclear {c : Bool} : (!c) = true ↔ c = false := iff_of_eq (Bool.not_eq_true' c)
  exact ⟨branch_row rfl rfl rfl hclear, branch_row rfl rfl rfl .rfl, branch_row rfl rfl rfl .rfl, branch_row rfl rfl rfl hclear,
    branch_row rfl rfl rfl .rfl, branch_row rfl rfl rfl hclear, branch_row rfl rfl rfl hclear, branch_row rfl rfl rfl .rfl⟩

end Sys2Proof.Machine
end

section
/-! PROOFS. What a push leaves on the stack, the matching pull takes back (R201, R202, R220 to R223). -/

namespace Sys2Proof.Machine

open Sys2Proof.Spec

/-! ## The status byte (R222, R223) -/

theorem getLsbD_statusWithB (p : Byte) {i : Nat} (hi : i < 8) :
    (statusWithB p).getLsbD i = if i = 4 ∨ i = 5 then true else p.getLsbD i := by
  rw [statusWithB, BitVec.getLsbD_or]
  interval_cases i <;> simp

theorem getLsbD_statusPulled (v : Byte) {i : Nat} (hi : i < 8) :
    (statusPulled v).getLsbD i = if i = 5 then true else if i = 4 then false else v.getLsbD i := by
  rw [statusPulled, BitVec.getLsbD_or, BitVec.getLsbD_and]
  interval_cases i <;> simp

theorem flags_statusWithB (p : Byte) : Flags p (statusWithB p) (fun i => if i = 4 ∨ i = 5 then some true else none) := by
  intro i hi
  rw [getLsbD_statusWithB p hi, apply_ite (Option.getD · _)]
  rfl

/-- R24: bits 5 and 4 of the flag byte are what a pull gives them. -/
theorem statusPulled_statusWithB {p : Byte} (h : flagsOk p = true) : statusPulled (statusWithB p) = p := by
  obtain ⟨h5, h4⟩ : p.getLsbD 5 = true ∧ (!p.getLsbD 4) = true := Bool.and_eq_true_iff.1 h
  refine BitVec.eq_of_getLsbD_eq fun i hi => ?_
  rw [getLsbD_statusPulled _ hi, getLsbD_statusWithB _ hi]
  by_cases hi5 : i = 5
  · rw [if_pos hi5, hi5, h5]
  by_cases hi4 : i = 4
  · rw [if_neg hi5, if_pos hi4, hi4, Bool.eq_false_of_not_eq_true' h4]
  · rw [if_neg hi5, if_neg hi4, if_neg (by omega)]

/-! ## The stack instructions on work RAM -/

section
variable {s : State} (h : StackInWram s.busMap)
include h

theorem StackInWram.exec_jsrAbs (a : Addr) :
    exec (.jsrAbs a) s = .next { s with
      wram := stackStore (stackStore s.wram s.sp.toNat (high (s.pc - 1))) (s.sp.toNat + 255) (low (s.pc - 1)),
      sp := s.sp - 1 - 1, pc := a, cyc := s.cyc + 6 } := by
  rw [Machine.exec_jsrAbs, h.push16_eq]
  rfl

theorem StackInWram.exec_rts : exec .rts s = .next { s with
    pc := word (stackByte s.wram (s.sp + 1 + 1)) (stackByte s.wram (s.sp + 1)) + 1, sp := s.sp + 1 + 1, cyc := s.cyc + 6 } := by
  rw [Machine.exec_rts, h.pull16_eq]

theorem StackInWram.exec_pha : exec .pha s = .next { s with
    wram := stackStore s.wram s.sp.toNat s.a, sp := s.sp - 1, cyc := s.cyc + 3 } := by
  have hmeaning : exec .pha s = .next (addCycles 3 (push s.a s)) := rfl
  rw [hmeaning, h.push_eq]
  rfl

theorem StackInWram.exec_pla : exec .pla s = .next { s with
    a := stackByte s.wram (s.sp + 1), p := withNZ (stackByte s.wram (s.sp + 1)) s.p, sp := s.sp + 1, cyc := s.cyc + 4 } := by
  have hmeaning : exec .pla s = .next (addCycles 4 (ldaOp (pull s).1 (pull s).2)) := rfl
  rw [hmeaning, h.pull_eq]
  rfl

theorem StackInWram.exec_php : exec .php s = .next { s with
    wram := stackStore s.wram s.sp.toNat (statusWithB s.p), sp := s.sp - 1, cyc := s.cyc + 3 } := by
  have hmeaning : exec .php s = .next (addCycles 3 (push (statusWithB s.p) s)) := rfl
  rw [hmeaning, h.push_eq]
  rfl

theorem StackInWram.exec_plp : exec .plp s = .next { s with
    p := statusPulled (stackByte s.wram (s.sp + 1)), sp := s.sp + 1, cyc := s.cyc + 4 } := by
  have hmeaning : exec .plp s = .next (addCycles 4 { (pull s).2 with p := statusPulled (pull s).1 }) := rfl
  rw [hmeaning, h.pull_eq]
  rfl

end

/-! ## The obligation -/

/-- Settles O36: each pull reads the stack bytes that the push stored; the two bytes of JSR lie at different positions. -/
theorem stackRoundTrips : Obligations.StackRoundTrips := by
  intro s hinv
  have h := hinv.stackInWram
  rw [adr_toNat_add_65535]
  refine ⟨fun a => ⟨_, h.exec_jsrAbs a, rfl, ?_⟩, ⟨_, h.exec_pha, fun b => ⟨_, flags_withNZ s.a s.p, ?_⟩⟩,
    ⟨_, _, flags_statusWithB s.p, h.exec_php, fun r => ?_⟩⟩
  · refine (StackInWram.exec_rts (by exact h)).trans ?_
    simp only [BitVec.sub_add_cancel, stackByte_stackStore_below, stackByte_stackStore_above, stackByte_stackStore_self,
      high_eq, low_eq, word_hiByte_loByte]
  · refine (StackInWram.exec_pla (by exact h)).trans ?_
    simp only [BitVec.sub_add_cancel, stackByte_stackStore_self]
  · refine (StackInWram.exec_plp (by exact h)).trans ?_
    simp only [BitVec.sub_add_cancel, stackByte_stackStore_self, statusPulled_statusWithB hinv.flags]

end Sys2Proof.Machine
end

section
/-! PROOFS. The stack instructions, BRK and RTI (R220 to R223, R232, R233). -/

namespace Sys2Proof.Machine

open Sys2Proof.Spec

/-! ## Pushes and pulls (R220 to R223) -/

/-- R223: bits 5 and 4 of a pulled status byte are fixed, the others are those of the byte. -/
theorem flags_statusPulled (v p : Byte) : Flags p (statusPulled v) (pulledFlags v) := by
  intro i hi
  rw [getLsbD_statusPulled v hi]
  interval_cases i <;> rfl

theorem exec_pha (s : State) : exec .pha s = .next { push s.a s with cyc := (push s.a s).cyc + 3 } := rfl

theorem exec_php (s : State) :
    exec .php s = .next { push (statusWithB s.p) s with cyc := (push (statusWithB s.p) s).cyc + 3 } := rfl

theorem exec_pla (s : State) :
    exec .pla s = .next { (pull s).2 with a := (pull s).1, p := withNZ (pull s).1 s.p, cyc := s.cyc + 4 } := by
  rw [← pull_p s, ← pull_cyc s]
  rfl

theorem exec_plp (s : State) : exec .plp s = .next { (pull s).2 with p := statusPulled (pull s).1, cyc := s.cyc + 4 } := by
  rw [← pull_cyc s]
  rfl

/-- Settles O16: the pushes and pulls of the statements are the machine's. -/
theorem stackResult : Obligations.StackResult := by
  intro s
  simp only [pushed_eq, pulled_eq]
  exact ⟨rfl, rfl, rfl, rfl, exec_pha s, ⟨_, flags_statusWithB s.p, exec_php s⟩,
    ⟨_, flags_withNZ (pull s).1 s.p, exec_pla s⟩, ⟨_, flags_statusPulled (pull s).1 s.p, exec_plp s⟩⟩

/-! ## BRK (R232, R252) -/

/-- R252: a BRK outranks no request and an IRQ. -/
theorem mergePending_brk (cur : Tag) : mergePending cur .brk = if cur = .none ∨ cur = .irq then .brk else cur := by
  cases cur <;> rfl

theorem exec_brk (s : State) :
    exec .brk s = .next { s with pc := s.pc + 1, pending := mergePending s.pending .brk, cyc := s.cyc + 7 } := rfl

/-! ## RTI (R233) -/

theorem pull_withP (q : Byte) (s : State) : pull (withP q s) = ((pull s).1, withP q (pull s).2) :=
  memRead_withP q (stackAddr (s.sp + 1)) { s with sp := s.sp + 1 }

theorem pull16_withP (q : Byte) (s : State) : pull16 (withP q s) = ((pull16 s).1, withP q (pull16 s).2) := by
  simp only [pull16, pull_withP]

/-- RTI writes P between the pulls, and the pulls of the PC neither read nor change it. -/
theorem returnFromInterrupt_eq (s : State) : returnFromInterrupt s =
    { (pull16 (pull s).2).2 with p := statusPulled (pull s).1, pc := (pull16 (pull s).2).1 } := by
  have hpc := pull16_withP (statusPulled (pull s).1) (pull s).2
  rw [withP] at hpc
  rw [returnFromInterrupt, hpc]
  rfl

theorem exec_rti (s : State) : exec .rti s = .next { (pull16 (pull s).2).2 with
    p := statusPulled (pull s).1, pc := (pull16 (pull s).2).1, cyc := s.cyc + 6 } := by
  have hmeaning : exec .rti s = .next (addCycles 6 (returnFromInterrupt s)) := rfl
  rw [hmeaning, addCycles, returnFromInterrupt_cyc, returnFromInterrupt_eq]

/-- Settles O18: BRK merges its tag into the pending one, RTI pulls a byte and a word. -/
theorem brkRtiResult : Obligations.BrkRtiResult := by
  intro s
  refine ⟨rfl, rfl, ?_, ⟨statusPulled (pulled s).1, flags_statusPulled _ _, ?_⟩⟩
  · rw [adr_toNat_add, ← mergePending_brk]
    exact exec_brk s
  · rw [exec_rti, pull16_eq_pulled, pulled_eq s]

end Sys2Proof.Machine
end

section
/-! PROOFS. The flag instructions and NOP (R224 to R231). -/

namespace Sys2Proof.Machine

open Sys2Proof.Spec

theorem flags_setBit (p : Byte) (i : Nat) (b : Bool) : Flags p (setBit p i b) (oneFlag i b) := by
  intro j hj
  rw [getLsbD_setBit p i b j hj, oneFlag, apply_ite (Option.getD · _)]
  rfl

/-- A row of the table: its byte, and its meaning, the write of one bit of P. -/
theorem flag_row {i : Instr} {op : Byte} {bit : Nat} {v : Bool} {s : State} (bytes : encode i = [op])
    (meaning : exec i s = .next (addCycles 2 (withP (setBit s.p bit v) s))) :
    ∃ q, encode i = [op] ∧ Flags s.p q (oneFlag bit v) ∧ exec i s = .next { s with p := q, cyc := s.cyc + 2 } :=
  ⟨_, bytes, flags_setBit s.p bit v, meaning⟩

/-- Settles O17, row by row. -/
theorem flagInstructionResult : Obligations.FlagInstructionResult := by
  intro s
  simp only [List.forall_mem_cons, List.not_mem_nil, false_implies, implies_true, and_true]
  exact ⟨⟨flag_row rfl rfl, flag_row rfl rfl, flag_row rfl rfl, flag_row rfl rfl, flag_row rfl rfl, flag_row rfl rfl,
    flag_row rfl rfl⟩, rfl, rfl⟩

end Sys2Proof.Machine
end

section
/-! PROOFS. The unknown opcodes (R128, R236). -/

namespace Sys2Proof.Machine

open Sys2Proof.Spec

/-- R236: what the default policy, skip, does. -/
theorem unknownOpcode_eq (op : Byte) (s : State) : unknownOpcode op s = .next { s with
    sawUnknownOpcode := true, cyc := s.cyc + 2,
    io := { s.io with log := s.io.log ++ [.unknownOpcode op (s.pc - 1)] } } := rfl

/-! ## The rows of the table, the lists compared row by row -/

theorem encode_of_mem_unknownOpcodes : ∀ u ∈ unknownOpcodes, encode u.1 = [byte u.2] :=
  List.map_inj_left.1 rfl

theorem exec_of_mem_unknownOpcodes (s : State) : ∀ u ∈ unknownOpcodes, exec u.1 s = unknownOpcode (byte u.2) s :=
  List.map_inj_left.1 rfl

/-- Settles O19: each row is the shared meaning of an unknown opcode, with the row's own byte. -/
theorem unknownOpcodeResult : Obligations.UnknownOpcodeResult := by
  intro s u hu
  rw [exec_of_mem_unknownOpcodes s u hu, unknownOpcode_eq, adr_toNat_add_65535]
  exact ⟨encode_of_mem_unknownOpcodes u hu, rfl⟩

end Sys2Proof.Machine
end

section
/-! PROOFS. The interrupt check, and that every step completes (R250, R254, R258, R498). -/

namespace Sys2Proof.Machine

/-! ## The interrupt check (R254, R258) -/

/-- R258: irq and brk wait while I is set. -/
theorem servicePending_of_maskable {k : Tag} (hk : k = .irq ∨ k = .brk) {s : State} (h : s.pending = k) :
    servicePending s = if s.p.getLsbD 2 then s else service k s := by
  unfold servicePending
  rcases hk with rfl | rfl <;> rw [h] <;> rfl

/-- Settles O32, tag by tag. -/
theorem interruptCheck : Obligations.InterruptCheck := by
  intro s
  refine ⟨fun h => ?_, fun h => ?_, fun h => ?_, fun k hk h => servicePending_of_maskable hk h⟩
  · simp only [servicePending, h]
  · simp only [servicePending, h, Config.intCycles]
  · simp only [servicePending, h]

/-! ## Every step completes (R250, R498) -/

/-- With no property to keep, `Closed` says only that an instruction completes. -/
theorem closed_true : Closed fun _ => True where
  setA _ _ _ := trivial
  setX _ _ _ := trivial
  setY _ _ _ := trivial
  setSp _ _ _ := trivial
  setPc _ _ _ := trivial
  setP _ _ _ _ := trivial
  setPending _ _ _ := trivial
  setCyc _ _ _ := trivial
  memRead _ _ _ := trivial
  memWrite _ _ _ _ := trivial
  markUnknown _ _ _ := trivial

theorem cpuStep_completes (s : State) : ∃ t, cpuStep s = .next t := by
  obtain ⟨t, ht, -⟩ := closed_true.cpuStep (s := s) trivial
  exact ⟨t, ht⟩

/-- Settles O26: an orchestrator's move is total, and an instruction completes from the state that the check leaves. -/
theorem everyStepCompletes : Obligations.EveryStepCompletes := by
  intro s
  cases hp : s.orch.phase with
  | idle => exact ⟨_, step_of_idle hp⟩
  | lineStart => exact ⟨_, step_of_lineStart hp⟩
  | cpu =>
    by_cases hc : s.cyc < Config.lineBudget
    · rw [step_of_budget hp hc]
      exact cpuStep_completes (servicePending s)
    · exact ⟨_, step_of_spent hp hc⟩

end Sys2Proof.Machine
end

section
/-! PROOFS. The service of nmi, irq and brk, and RTI after it (R233, R255, R256, R260). -/

namespace Sys2Proof.Machine

open Sys2Proof.Spec

/-! ## The vectors (R79, R256) -/

theorem lookup_prg {s : State} (h : s.Inv) {a : Addr} (ha : 0x8000 ≤ a.toNat) :
    ∃ base n, BusMap.lookup s.busMap a.toNat = (.prg base, n) := by
  obtain ⟨lo, hi, -, -, hlo, hhi⟩ := h.bus.prg
  have hlt := a.isLt
  by_cases hmid : a.toNat ≤ 0xBFFF
  · exact ⟨_, _, hlo _ ha hmid⟩
  · exact ⟨_, _, hhi _ (by omega) (by omega)⟩

/-- R79: a read of PRG depends on the bus table and the cartridge only, and changes nothing. -/
theorem memRead_prg {s t : State} (h : s.Inv) (hbus : t.busMap = s.busMap) (hcart : t.cart = s.cart) {a : Addr}
    (ha : 0x8000 ≤ a.toNat) : memRead a t = (peek s a, t) := by
  obtain ⟨base, n, hl⟩ := lookup_prg h ha
  simp only [peek, memRead, hbus, hl, deviceRead, hcart]

theorem memRead16_prg {s t : State} (h : s.Inv) (hbus : t.busMap = s.busMap) (hcart : t.cart = s.cart) {a : Addr}
    (ha : 0x8000 ≤ a.toNat) (ha' : 0x8000 ≤ (a + 1).toNat) : memRead16 a t = (peekWord s a.toNat, t) := by
  have hnext : adr (a.toNat + 1) = a + 1 := adr_toNat_add a 1
  simp only [memRead16, memRead_prg h hbus hcart ha, memRead_prg h hbus hcart ha', peekWord, adr_toNat, hnext, word_eq_adr]

theorem memRead16_vectorOf {s t : State} (h : s.Inv) (hbus : t.busMap = s.busMap) (hcart : t.cart = s.cart) (k : Tag) :
    memRead16 (vectorOf k) t = (peekWord s (if k = .nmi then 0xFFFA else 0xFFFE), t) := by
  unfold vectorOf
  split
  · exact memRead16_prg h hbus hcart (by decide) (by decide)
  · exact memRead16_prg h hbus hcart (by decide) (by decide)

/-! ## The status byte of a service (R255) -/

/-- R255: the bits that the pushed status does not take from P: bit 5 set, and B set for brk only. -/
def pushedFlags (k : Tag) : Nat → Option Bool :=
  fun i => if i = 5 then some true else if i = 4 then some (decide (k = .brk)) else none

theorem getLsbD_statusWithoutB (p : Byte) {i : Nat} (hi : i < 8) :
    (statusWithoutB p).getLsbD i = if i = 5 then true else if i = 4 then false else p.getLsbD i := by
  rw [statusWithoutB, BitVec.getLsbD_and, BitVec.getLsbD_or]
  interval_cases i <;> simp

theorem flags_pushedStatus (k : Tag) (p : Byte) : Flags p (pushedStatus k p) (pushedFlags k) := by
  intro i hi
  by_cases hk : k = .brk
  · rw [pushedStatus, if_pos hk, getLsbD_statusWithB p hi, pushedFlags, decide_eq_true hk]
    interval_cases i <;> rfl
  · rw [pushedStatus, if_neg hk, getLsbD_statusWithoutB p hi, pushedFlags, decide_eq_false hk]
    interval_cases i <;> rfl

/-- R223: a pull writes bits 4 and 5 itself, so it does not tell the two status bytes of a service apart. -/
theorem statusPulled_statusWithoutB (p : Byte) : statusPulled (statusWithoutB p) = statusPulled (statusWithB p) := by
  refine BitVec.eq_of_getLsbD_eq fun i hi => ?_
  rw [getLsbD_statusPulled _ hi, getLsbD_statusPulled _ hi, getLsbD_statusWithB p hi, getLsbD_statusWithoutB p hi]
  interval_cases i <;> rfl

theorem statusPulled_pushedStatus {p : Byte} (h : flagsOk p = true) (k : Tag) : statusPulled (pushedStatus k p) = p := by
  unfold pushedStatus
  split
  · exact statusPulled_statusWithB h
  · exact (statusPulled_statusWithoutB p).trans (statusPulled_statusWithB h)

/-! ## The three bytes of a service on the stack -/

/-- R255: work RAM after a service: the PC high byte first, then the status, from the stack pointer down. -/
def serviceStack (k : Tag) (s : State) : Memory :=
  stackStore (stackStore (stackStore s.wram s.sp.toNat (high s.pc)) (s.sp.toNat + 255) (low s.pc)) (s.sp.toNat + 254)
    (pushedStatus k s.p)

theorem toNat_sub_two (b : Byte) : (b - 1 - 1).toNat = (b.toNat + 254) % 256 := by
  rw [toNat_sub_one, toNat_sub_one]
  omega

theorem byte_toNat_add_253 (b : Byte) : byte (b.toNat + 253) = b - 1 - 1 - 1 := by
  have hsum : byte (b.toNat + 253) = byte ((b - 1 - 1).toNat + 255) := by
    refine BitVec.eq_of_toNat_eq ?_
    rw [toNat_sub_two, byte, byte, BitVec.toNat_ofNat, BitVec.toNat_ofNat]
    omega
  rw [hsum, byte_toNat_add_255]

theorem stackByte_serviceStack_status (k : Tag) (s : State) :
    stackByte (serviceStack k s) (s.sp - 1 - 1) = pushedStatus k s.p :=
  (stackByte_stackStore ..).trans (if_pos (toNat_sub_two s.sp))

theorem stackByte_serviceStack_low (k : Tag) (s : State) : stackByte (serviceStack k s) (s.sp - 1) = low s.pc := by
  have hne : (s.sp - 1).toNat ≠ (s.sp.toNat + 254) % 256 := by rw [toNat_sub_one]; omega
  rw [serviceStack, stackByte_stackStore, if_neg hne, stackByte_stackStore_below]

theorem stackByte_serviceStack_high (k : Tag) (s : State) : stackByte (serviceStack k s) s.sp = high s.pc := by
  have hne : s.sp.toNat ≠ (s.sp.toNat + 254) % 256 := by have := s.sp.isLt; omega
  rw [serviceStack, stackByte_stackStore, if_neg hne, stackByte_stackStore_above, stackByte_stackStore_self]

/-! ## The service (R255) -/

theorem service_eq {s : State} (h : s.Inv) (k : Tag) : service k s = { s with
    wram := serviceStack k s, sp := byte (s.sp.toNat + 253), p := setBit s.p 2 true,
    pc := peekWord s (if k = .nmi then 0xFFFA else 0xFFFE), pending := .none, cyc := s.cyc + 7 } := by
  have hpushed : push (pushedStatus k (push16 s.pc s).p) (push16 s.pc s) =
      { s with wram := serviceStack k s, sp := byte (s.sp.toNat + 253) } := by
    have hstack : StackInWram (push16 s.pc s).busMap := by rw [h.stackInWram.push16_eq]; exact h.stackInWram
    rw [hstack.push_eq, h.stackInWram.push16_eq]
    simp only [toNat_sub_two, stackStore_mod, serviceStack, byte_toNat_add_253]
  have hvector := memRead16_vectorOf
    (t := setI true { s with wram := serviceStack k s, sp := byte (s.sp.toNat + 253) }) h rfl rfl k
  simp only [service, hpushed, Config.intSetsI, if_true, hvector]
  rfl

/-- Settles O33: the service as one update of the state, whatever the tag, and its two flag bytes bit by bit. -/
theorem serviceEffect : Obligations.ServiceEffect := fun k s h _ =>
  ⟨_, _, flags_pushedStatus k s.p, flags_setBit s.p 2 true, service_eq h k⟩

/-! ## RTI after a service (R233, R260) -/

theorem word_high_low (a : Addr) : word (high a) (low a) = a := by rw [high_eq, low_eq, word_hiByte_loByte]

theorem StackInWram.exec_rti {s : State} (h : StackInWram s.busMap) : exec .rti s = .next { s with
    p := statusPulled (stackByte s.wram (s.sp + 1)),
    pc := word (stackByte s.wram (s.sp + 1 + 1 + 1)) (stackByte s.wram (s.sp + 1 + 1)),
    sp := s.sp + 1 + 1 + 1, cyc := s.cyc + 6 } := by
  have hpulled : StackInWram (pull s).2.busMap := by rw [pull_busMap]; exact h
  rw [Machine.exec_rti, hpulled.pull16_eq, h.pull_eq]

/-- Settles O35: RTI pulls the three bytes that the service pushed, each from its own position. -/
theorem serviceThenRti : Obligations.ServiceThenRti := by
  intro k s h _
  refine ⟨_, flags_pushedStatus k s.p, ?_⟩
  rw [service_eq h k, byte_toNat_add_253]
  refine (StackInWram.exec_rti (by exact h.stackInWram)).trans ?_
  simp only [BitVec.sub_add_cancel, stackByte_serviceStack_status, stackByte_serviceStack_low, stackByte_serviceStack_high,
    statusPulled_pushedStatus h.flags, word_high_low]
  rfl

end Sys2Proof.Machine
end

section
/-! PROOFS. The PPU's address space as places: which place an address names, reads and writes by place, the mirrors (R291 to R298). -/

namespace Sys2Proof.Machine

open Sys2Proof.Spec

namespace Ppu

/-! ## The place that an address names -/

theorem ntBuffer_eq (m : Mirroring) {l : Nat} (h : l < 4) : ntBuffer m l = (nametableBuffers m).getD l 0 := by
  have htable : ∀ l < 4, ntBuffer m l = (nametableBuffers m).getD l 0 := by cases m <;> decide
  exact htable l h

theorem paletteIndex_eq (a : Nat) :
    paletteIndex a = if a % 32 ∈ [0x10, 0x14, 0x18, 0x1C] then a % 32 - 16 else a % 32 := by
  have hbackdrop : ∀ i < 32, (i / 16 = 1 ∧ i % 4 = 0 ↔ i ∈ [0x10, 0x14, 0x18, 0x1C]) := by decide
  simp only [paletteIndex, hbackdrop _ (Nat.mod_lt a (by decide : 32 > 0))]

section
variable {a : Nat} (m : Mirroring)

theorem vramCell_pattern (h : a % 0x4000 < 0x2000) : vramCell m a = .pattern (a % 0x4000) := if_pos h

theorem vramCell_nametable (h1 : 0x2000 ≤ a % 0x4000) (h2 : a % 0x4000 < 0x3F00) :
    vramCell m a = .nametable (ntBuffer m (a / 1024 % 4)) (a % 1024) := by
  have hl : a % 0x4000 / 1024 % 4 = a / 1024 % 4 := by omega
  have ho : a % 0x4000 % 1024 = a % 1024 := by omega
  rw [ntBuffer_eq m (Nat.mod_lt _ (by decide))]
  simp only [vramCell, if_neg (Nat.not_lt.2 h1), if_pos h2, hl, ho]

theorem vramCell_palette (h : 0x3F00 ≤ a % 0x4000) : vramCell m a = .palette (paletteIndex a) := by
  have hi : a % 0x4000 % 32 = a % 32 := by omega
  have h1 : ¬ a % 0x4000 < 0x2000 := by omega
  simp only [vramCell, if_neg h1, if_neg (Nat.not_lt.2 h), hi, paletteIndex_eq]

end

/-! ## Reads and writes by place (R297) -/

/-- The byte that a place reads as. -/
def readCell (p : Ppu) : VramCell → Byte
  | .pattern i => Memory.read p.pattern i
  | .nametable b o => Memory.read p.nt (1024 * b + o)
  | .palette i => (p.paletteEntry i).setWidth 8

/-- The PPU after a byte is stored at a place. -/
def writeCell (d : Byte) (p : Ppu) : VramCell → Ppu
  | .pattern i => { p with pattern := Memory.write p.pattern i d }
  | .nametable b o => { p with nt := Memory.write p.nt (1024 * b + o) d }
  | .palette i => { p with palette := Sparse.write 0 p.palette i (d.setWidth 6) }

/-- The byte that a place holds after `d` is stored there: a palette entry keeps six bits. -/
def keptByte (d : Byte) : VramCell → Byte
  | .palette _ => byte (d.toNat % 64)
  | _ => d

/-- A place of the four 1 KiB nametable buffers lies inside its buffer. -/
def InBuffer : VramCell → Prop
  | .nametable _ o => o < 1024
  | _ => True

/-- The three windows of the address space: pattern, nametables with their mirror, palette. -/
theorem window_cases (a : Nat) :
    a % 0x4000 < 0x2000 ∨ (0x2000 ≤ a % 0x4000 ∧ a % 0x4000 < 0x3F00) ∨ 0x3F00 ≤ a % 0x4000 := by omega

theorem inBuffer_vramCell (m : Mirroring) (a : Nat) : InBuffer (vramCell m a) := by
  rcases window_cases a with h | ⟨h1, h2⟩ | h
  · rw [vramCell_pattern m h]; trivial
  · rw [vramCell_nametable m h1 h2]; exact Nat.mod_lt _ (by decide)
  · rw [vramCell_palette m h]; trivial

/-- R293: the index into the nametable memory, of an address below 0x3000 and of its mirror above. -/
theorem ntIndex_mod (m : Mirroring) (a : Nat) : ntIndex m (a % 0x4000) = 1024 * ntBuffer m (a / 1024 % 4) + a % 1024 := by
  have hl : a % 0x4000 / 1024 % 4 = a / 1024 % 4 := by omega
  have ho : a % 0x4000 % 1024 = a % 1024 := by omega
  rw [ntIndex, hl, ho]

theorem ntIndex_sub (m : Mirroring) {a : Nat} (h : 0x1000 ≤ a) : ntIndex m (a - 0x1000) = ntIndex m a := by
  have hl : (a - 0x1000) / 1024 % 4 = a / 1024 % 4 := by omega
  have ho : (a - 0x1000) % 1024 = a % 1024 := by omega
  rw [ntIndex, ntIndex, hl, ho]

theorem paletteIndex_mod (a : Nat) : paletteIndex (a % 0x4000) = paletteIndex a := by
  have hi : a % 0x4000 % 32 = a % 32 := by omega
  rw [paletteIndex, paletteIndex, hi]

theorem read_eq_readCell (p : Ppu) (a : Nat) : p.read a = p.readCell (vramCell p.mirroring a) := by
  rcases window_cases a with h | ⟨h1, h2⟩ | h
  · rw [vramCell_pattern _ h]
    exact if_pos h
  · have h0 : ¬ a % 0x4000 < 0x2000 := by omega
    rw [vramCell_nametable _ h1 h2]
    simp only [read, if_neg h0, if_pos h2, ntIndex_sub _ (show 0x1000 ≤ a % 0x4000 by omega), ite_self, ntIndex_mod, readCell]
  · have h0 : ¬ a % 0x4000 < 0x2000 := by omega
    have h1 : ¬ a % 0x4000 < 0x3000 := by omega
    have h2 : ¬ a % 0x4000 < 0x3F00 := by omega
    rw [vramCell_palette _ h]
    simp only [read, if_neg h0, if_neg h1, if_neg h2, paletteIndex_mod, readCell]

theorem write_eq_writeCell (p : Ppu) (a : Nat) (d : Byte) : p.write a d = p.writeCell d (vramCell p.mirroring a) := by
  rcases window_cases a with h | ⟨h1, h2⟩ | h
  · rw [vramCell_pattern _ h]
    exact if_pos h
  · have h0 : ¬ a % 0x4000 < 0x2000 := by omega
    rw [vramCell_nametable _ h1 h2]
    simp only [write, if_neg h0, if_pos h2, ntIndex_sub _ (show 0x1000 ≤ a % 0x4000 by omega), ite_self, ntIndex_mod, writeCell]
  · have h0 : ¬ a % 0x4000 < 0x2000 := by omega
    have h1 : ¬ a % 0x4000 < 0x3000 := by omega
    have h2 : ¬ a % 0x4000 < 0x3F00 := by omega
    rw [vramCell_palette _ h]
    simp only [write, if_neg h0, if_neg h1, if_neg h2, paletteIndex_mod, writeCell]

@[simp] theorem writeCell_mirroring (d : Byte) (p : Ppu) (c : VramCell) : (p.writeCell d c).mirroring = p.mirroring := by
  cases c <;> rfl

theorem setWidth_six_setWidth_eight (d : Byte) : (d.setWidth 6).setWidth 8 = byte (d.toNat % 64) := by
  apply BitVec.eq_of_toNat_eq
  simp [byte]

theorem readCell_writeCell_self (d : Byte) (p : Ppu) (c : VramCell) : (p.writeCell d c).readCell c = keptByte d c := by
  cases c with
  | pattern i => exact Memory.read_write_self _ _ _
  | nametable b o => exact Memory.read_write_self _ _ _
  | palette i => exact (congrArg (BitVec.setWidth 8) (Sparse.read_write_self ..)).trans (setWidth_six_setWidth_eight d)

theorem readCell_writeCell_other (d : Byte) (p : Ppu) {c e : VramCell} (hc : InBuffer c) (he : InBuffer e) (h : e ≠ c) :
    (p.writeCell d c).readCell e = p.readCell e := by
  cases c with
  | pattern i =>
    cases e with
    | pattern j => exact Sparse.read_write_other 0 p.pattern d fun hij => h (congrArg _ hij)
    | _ => rfl
  | nametable b o =>
    cases e with
    | nametable b' o' =>
      refine Sparse.read_write_other 0 p.nt d fun hkey => h ?_
      simp only [InBuffer] at hc he
      have hb : b' = b := by omega
      have ho : o' = o := by omega
      rw [hb, ho]
    | _ => rfl
  | palette i =>
    cases e with
    | palette j => exact congrArg (BitVec.setWidth 8) (Sparse.read_write_other 0 p.palette _ fun hij => h (congrArg _ hij))
    | _ => rfl

/-- R298: the mode says which place an address names, and not what the place holds. -/
theorem read_withMirroring (p : Ppu) (m : Mirroring) (a : Nat) : read { p with mirroring := m } a = p.readCell (vramCell m a) := by
  rw [read_eq_readCell]
  generalize vramCell _ a = c
  cases c <;> rfl

theorem keptByte_vramCell (d : Byte) (m : Mirroring) (a : Nat) :
    keptByte d (vramCell m a) = if a % 0x4000 < 0x3F00 then d else byte (d.toNat % 64) := by
  rcases window_cases a with h | ⟨h1, h2⟩ | h
  · rw [vramCell_pattern m h, if_pos (by omega)]; rfl
  · rw [vramCell_nametable m h1 h2, if_pos h2]; rfl
  · rw [vramCell_palette m h, if_neg (by omega)]; rfl

/-! ## The mirrors (R291, R293, R294) -/

theorem read_congr (p : Ppu) {a b : Nat} (h : vramCell p.mirroring b = vramCell p.mirroring a) : p.read b = p.read a := by
  rw [read_eq_readCell, read_eq_readCell, h]

theorem vramCell_add_space (m : Mirroring) (a : Nat) : vramCell m (a + 0x4000) = vramCell m a := by
  rw [vramCell, vramCell, Nat.add_mod_right]

/-- Two nametable addresses, mirror included, at one offset of one buffer name one place. -/
theorem vramCell_nametable_congr {m : Mirroring} {a b : Nat} (ha : 0x2000 ≤ a ∧ a < 0x3F00) (hb : 0x2000 ≤ b ∧ b < 0x3F00)
    (hbuffer : ntBuffer m (b / 1024 % 4) = ntBuffer m (a / 1024 % 4)) (ho : b % 1024 = a % 1024) :
    vramCell m b = vramCell m a := by
  rw [vramCell_nametable m (by omega) (by omega), vramCell_nametable m (by omega) (by omega), hbuffer, ho]

/-- Two palette addresses with one entry name one place. -/
theorem vramCell_palette_congr (m : Mirroring) {a b : Nat} (ha : 0x3F00 ≤ a ∧ a < 0x4000) (hb : 0x3F00 ≤ b ∧ b < 0x4000)
    (h : paletteIndex b = paletteIndex a) : vramCell m b = vramCell m a := by
  rw [vramCell_palette m (by omega), vramCell_palette m (by omega), h]

end Ppu

/-- Settles O50: reads and writes go through the place that an address names, and mirrored addresses name one place. -/
theorem vramMirrors : Obligations.VramMirrors := by
  intro p a d
  have hself : (p.write a d).read a = Ppu.keptByte d (vramCell p.mirroring a) := by
    rw [Ppu.read_eq_readCell, Ppu.write_eq_writeCell, Ppu.writeCell_mirroring, Ppu.readCell_writeCell_self]
  have hmirroring : (p.write a d).mirroring = p.mirroring := by
    rw [Ppu.write_eq_writeCell, Ppu.writeCell_mirroring]
  refine ⟨hself.trans (Ppu.keptByte_vramCell d _ a), fun b hb => Ppu.read_congr _ (by rw [hmirroring, hb]), fun b hb => ?_,
    fun m n b h => ?_, Ppu.read_congr _ (Ppu.vramCell_add_space _ a), fun h1 h2 => ?_, fun h1 h2 => ?_, fun ha => ?_,
    fun hm h1 h2 => ?_, fun hm ha => ?_, fun hm h1 h2 => ?_⟩
  · rw [Ppu.read_eq_readCell, hmirroring, Ppu.write_eq_writeCell,
      Ppu.readCell_writeCell_other d p (Ppu.inBuffer_vramCell _ a) (Ppu.inBuffer_vramCell _ b) hb, ← Ppu.read_eq_readCell]
  · rw [Ppu.read_withMirroring, Ppu.read_withMirroring, h]
  · exact Ppu.read_congr p (Ppu.vramCell_nametable_congr (by omega) (by omega) (congrArg _ (by omega)) (by omega))
  · refine Ppu.read_congr p (Ppu.vramCell_palette_congr _ (by omega) (by omega) ?_)
    rw [Ppu.paletteIndex, Ppu.paletteIndex, Nat.add_mod_right]
  · have haliases : ∀ a ∈ [0x3F00, 0x3F04, 0x3F08, 0x3F0C],
        (0x3F00 ≤ a ∧ a < 0x3FF0) ∧ Ppu.paletteIndex (a + 16) = Ppu.paletteIndex a := by decide
    obtain ⟨hrange, hindex⟩ := haliases a ha
    exact Ppu.read_congr p (Ppu.vramCell_palette_congr _ (by omega) (by omega) hindex)
  · refine Ppu.read_congr p (Ppu.vramCell_nametable_congr (by omega) (by omega) ?_ (by omega))
    simp only [hm, Ppu.ntBuffer]
    omega
  · refine Ppu.read_congr p (Ppu.vramCell_nametable_congr (by omega) (by omega) ?_ (by omega))
    simp only [hm, Ppu.ntBuffer]
    omega
  · refine Ppu.read_congr p (Ppu.vramCell_nametable_congr (by omega) (by omega) ?_ (by omega))
    rcases hm with hm | hm <;> simp only [hm, Ppu.ntBuffer]

end Sys2Proof.Machine
end

section
/-! PROOFS. The data port (R307, R308). -/

namespace Sys2Proof.Machine

open Sys2Proof.Spec

theorem Ppu.v_add_increment (p : Ppu) : p.v + p.increment = BitVec.ofNat 15 (p.v.toNat + portStep p) := by
  have hstep : p.increment = BitVec.ofNat 15 (portStep p) := by
    unfold increment portStep
    split <;> rfl
  rw [hstep, BitVec.ofNat_add, BitVec.ofNat_toNat, BitVec.setWidth_eq]

theorem Ppu.writeCpu_eq (chrBanks a : Nat) (d : Byte) (p : Ppu) :
    p.writeCpu (decide (0 < chrBanks)) (a % 0x4000) d =
      if a % 0x4000 < 0x2000 ∧ 0 < chrBanks then p else p.write (a % 0x4000) d := by
  simp only [writeCpu, Nat.mod_mod, Bool.and_eq_true, decide_eq_true_eq, and_comm]

/-- Settles O49: port 7 of the PPU's window, with both sides of 0x3F00 for a read and of 0x2000 for a write. -/
theorem dataPort : Obligations.DataPort := by
  intro s a d h ha
  refine ⟨(memRead_port h ha).trans ?_, (memWrite_port h ha d).trans ?_⟩
  · change (s.ppu.readData.1, { s with ppu := s.ppu.readData.2 }) = _
    unfold Ppu.readData Ppu.ppuAddr
    rw [Ppu.v_add_increment]
    dsimp only
    split <;> rfl
  · change { s with ppu := { s.ppu.writeCpu _ (s.ppu.v.toNat % 0x4000) d with v := s.ppu.v + s.ppu.increment } } = _
    rw [Ppu.v_add_increment, Ppu.writeCpu_eq]
    split <;> rfl

end Sys2Proof.Machine
end

section
/-! PROOFS. The start of a line and the wrap rules of `v` (R311, R317). -/

namespace Sys2Proof.Machine

open Sys2Proof.Spec

/-! ## The start of a line (R311) -/

theorem getLsbD_coarseX (v : BitVec 15) {i : Nat} (h : i < 5) : (Ppu.coarseX v).getLsbD i = v.getLsbD i := by
  rw [Ppu.coarseX, BitVec.getLsbD_extractLsb', Nat.zero_add, decide_eq_true h, Bool.true_and]

/-- R311: the horizontal bits are 4..0 and 10. -/
theorem getLsbD_reloadHorizontal (v t : BitVec 15) {i : Nat} (hi : i < 15) :
    (setBit (setField v 0 (Ppu.coarseX t)) 10 (t.getLsbD 10)).getLsbD i =
      if i < 5 ∨ i = 10 then t.getLsbD i else v.getLsbD i := by
  rw [getLsbD_setBit _ _ _ _ hi, getLsbD_setField _ _ _ _ hi]
  by_cases h10 : i = 10
  · simp [h10]
  · by_cases h5 : i < 5
    · rw [if_neg h10, if_pos ⟨Nat.zero_le i, by omega⟩, if_pos (.inl h5), Nat.sub_zero, getLsbD_coarseX t h5]
    · rw [if_neg h10, if_neg (by omega), if_neg (by omega)]

theorem Ppu.getLsbD_reloadScroll (n : Nat) (p : Ppu) {i : Nat} (hi : i < 15) :
    (p.reloadScroll n).v.getLsbD i =
      if p.renderingOn = true ∧ (n = 0 ∨ (1 ≤ n ∧ n ≤ 239 ∧ (i < 5 ∨ i = 10))) then p.t.getLsbD i else p.v.getLsbD i := by
  unfold reloadScroll
  split
  case isTrue hoff => simp [hoff]
  case isFalse hon =>
    have hon : p.renderingOn = true := by simpa using hon
    split
    case isTrue h0 => simp [hon, h0]
    case isFalse h0 =>
      have h1 : 1 ≤ n := Nat.pos_of_ne_zero h0
      split
      case isTrue h239 =>
        rw [getLsbD_reloadHorizontal _ _ hi]
        simp only [hon, h0, h1, h239, true_and, false_or]
      case isFalse h239 => simp [h0, h239]

theorem Ppu.reloadScroll_eq (n : Nat) (p : Ppu) : p.reloadScroll n = { p with v := (p.reloadScroll n).v } := by
  unfold reloadScroll
  split_ifs <;> rfl

theorem Ppu.preRenderFlags_eq (n : Nat) (p : Ppu) : p.preRenderFlags n = { p with
    spriteLine := if n = 0 then [] else p.spriteLine
    vblank := if n = 241 then true else if n = 261 then false else p.vblank
    sprite0Hit := if n = 261 then false else p.sprite0Hit
    spriteOverflow := if n = 261 then false else p.spriteOverflow } := by
  unfold preRenderFlags
  split
  case isTrue h0 => subst h0; rfl
  case isFalse h0 =>
    split
    case isTrue h241 => subst h241; rfl
    case isFalse h241 =>
      split
      case isTrue h261 => subst h261; rfl
      case isFalse h261 => rfl

theorem preRender_eq (n : Nat) (s : State) : preRender n s =
    { (if n = 241 ∧ s.ppu.ppuCtrl.getLsbD 7 = true then request .nmi s else s) with ppu := s.ppu.preRender n } := by
  unfold preRender
  dsimp only
  split <;> rfl

/-- Settles O51: `v` is what the reload leaves, the rest is the flags' part of `PreRender`. -/
theorem preRenderResult : Obligations.PreRenderResult := by
  intro n s
  refine ⟨(s.ppu.reloadScroll n).v, fun i hi => Ppu.getLsbD_reloadScroll n s.ppu hi, ?_⟩
  rw [preRender_eq, Ppu.preRender, Ppu.preRenderFlags_eq, Ppu.reloadScroll_eq]

/-! ## The wrap rules of `v` (R317) -/

section
variable (v : BitVec 15)

theorem toNat_coarseX : (Ppu.coarseX v).toNat = v.toNat % 32 := by
  rw [Ppu.coarseX, toNat_extractLsb', Nat.pow_zero, Nat.div_one]; rfl

theorem toNat_coarseY : (Ppu.coarseY v).toNat = v.toNat / 32 % 32 := toNat_extractLsb' v 5 5

theorem toNat_fineY : (Ppu.fineY v).toNat = v.toNat / 4096 % 8 := toNat_extractLsb' v 12 3

theorem toNat_clearField {k lo : Nat} (h : lo + k ≤ 15) :
    (setField v lo (0 : BitVec k)).toNat = 2 ^ (lo + k) * (v.toNat / 2 ^ (lo + k)) + v.toNat % 2 ^ lo := by
  rw [toNat_setField v lo _ h, BitVec.ofNat_eq_ofNat, BitVec.toNat_zero, Nat.mul_zero, Nat.zero_add]

theorem toNat_not_getLsbD (i : Nat) : (!v.getLsbD i).toNat = 1 - v.toNat / 2 ^ i % 2 := by
  rw [← BitVec.testBit_toNat, Nat.testBit_eq_decide_div_mod_eq]
  rcases Nat.mod_two_eq_zero_or_one (v.toNat / 2 ^ i) with h | h <;> simp [h]

theorem toNat_incCoarseX : (Ppu.incCoarseX v).toNat =
    if v.toNat % 32 = 31 then 2048 * (v.toNat / 2048) + 1024 * (1 - v.toNat / 1024 % 2) + 32 * (v.toNat / 32 % 32)
    else v.toNat + 1 := by
  have hlast : Ppu.coarseX v = 31 ↔ v.toNat % 32 = 31 := by rw [← BitVec.toNat_inj, toNat_coarseX]; rfl
  simp only [Ppu.incCoarseX, hlast]
  split
  · have hleft : (setField v 0 (0 : BitVec 5)).toNat = 32 * (v.toNat / 32) := by
      rw [toNat_clearField v (by decide)]
      omega
    rw [toNat_setBit _ _ _ (by decide), toNat_not_getLsbD, hleft]
    omega
  · rw [toNat_setField _ _ _ (by decide), BitVec.toNat_add, toNat_coarseX, show (1 : BitVec 5).toNat = 1 from rfl]
    omega

theorem toNat_incFineY : (Ppu.incFineY v).toNat =
    if v.toNat / 4096 % 8 ≠ 7 then v.toNat + 4096
    else if v.toNat / 32 % 32 = 29 then 2048 * (1 - v.toNat / 2048 % 2) + 1024 * (v.toNat / 1024 % 2) + v.toNat % 32
    else if v.toNat / 32 % 32 = 31 then 1024 * (v.toNat / 1024 % 4) + v.toNat % 32
    else v.toNat % 4096 + 32 := by
  have hlast : Ppu.fineY v = 7 ↔ v.toNat / 4096 % 8 = 7 := by rw [← BitVec.toNat_inj, toNat_fineY]; rfl
  have hrow29 : Ppu.coarseY v = 29 ↔ v.toNat / 32 % 32 = 29 := by rw [← BitVec.toNat_inj, toNat_coarseY]; rfl
  have hrow31 : Ppu.coarseY v = 31 ↔ v.toNat / 32 % 32 = 31 := by rw [← BitVec.toNat_inj, toNat_coarseY]; rfl
  have hlt := v.isLt
  have hfine : (setField v 12 (0 : BitVec 3)).toNat = v.toNat % 4096 := by
    rw [toNat_clearField v (by decide)]
    omega
  have htop : (setField (setField v 12 (0 : BitVec 3)) 5 (0 : BitVec 5)).toNat = 1024 * (v.toNat / 1024 % 4) + v.toNat % 32 := by
    rw [toNat_clearField _ (by decide), hfine]
    omega
  simp only [Ppu.incFineY, ne_eq, hlast, hrow29, hrow31]
  split
  · rw [toNat_setField _ _ _ (by decide), BitVec.toNat_add, toNat_fineY, show (1 : BitVec 3).toNat = 1 from rfl]
    omega
  split
  · rw [toNat_setBit _ _ _ (by decide), toNat_not_getLsbD, htop]
    omega
  split
  · exact htop
  · rw [toNat_setField _ _ _ (by decide), hfine, BitVec.toNat_add, toNat_coarseY, show (1 : BitVec 5).toNat = 1 from rfl]
    omega

end

/-- Settles O52, on the numbers of the two increments. -/
theorem scrollWrap : Obligations.ScrollWrap := by
  intro v
  have hlt := v.isLt
  refine ⟨?_, ?_⟩
  · simp only [tileX, toNat_incCoarseX]
    split <;> omega
  · by_cases h239 : pixelY v.toNat = 239
    · rw [if_pos h239, if_pos h239, toNat_incFineY]
      unfold pixelY at h239 ⊢
      have hfine : v.toNat / 4096 % 8 = 7 := by omega
      have hcoarse : v.toNat / 32 % 32 = 29 := by omega
      rw [if_neg (not_not.2 hfine), if_pos hcoarse]
      omega
    · rw [if_neg h239, if_neg h239, toNat_incFineY]
      unfold pixelY at h239 ⊢
      split
      · have hfine : (v.toNat + 4096) / 4096 % 8 = v.toNat / 4096 % 8 + 1 := by omega
        have hcoarse : (v.toNat + 4096) / 32 % 32 = v.toNat / 32 % 32 := by omega
        rw [hfine, hcoarse]
        omega
      · split_ifs <;> omega

end Sys2Proof.Machine
end

section
/-! PROOFS. Rendering a line: what it changes, with and without a picture, and the sprite evaluation's overflow (R315 to R325, R456). -/

namespace Sys2Proof.Machine

namespace Ppu

/-! ## What the parts of a line change -/

theorem emit_eq (skip : Bool) (n c : Nat) (e : BitVec 6) (p : Ppu) :
    p.emit skip n c e = { p with frame := (p.emit skip n c e).frame } := by
  unfold emit
  split <;> rfl

/-- R315: a column changes `v`, the sprite-0 flag and the picture. -/
theorem renderColumn_changes (skip : Bool) (n : Nat) (q : Ppu × BitVec 3) (c : Nat) : ∃ v hit frame,
    (renderColumn skip n q c).1 = { q.1 with v := v, sprite0Hit := hit, frame := frame } := by
  unfold renderColumn composite
  dsimp only
  rw [emit_eq]
  split <;> exact ⟨_, _, _, rfl⟩

theorem renderColumns_changes (skip : Bool) (n : Nat) (l : List Nat) (q : Ppu × BitVec 3) : ∃ v hit frame,
    (l.foldl (renderColumn skip n) q).1 = { q.1 with v := v, sprite0Hit := hit, frame := frame } := by
  refine foldl_keeps (renderColumn skip n) (fun r => ∃ v hit frame, r.1 = { q.1 with v := v, sprite0Hit := hit, frame := frame })
    (fun r c hr => ?_) l q ⟨_, _, _, rfl⟩
  obtain ⟨_, _, _, hr⟩ := hr
  obtain ⟨_, _, _, hc⟩ := renderColumn_changes skip n r c
  rw [hc, hr]
  exact ⟨_, _, _, rfl⟩

theorem drawSpritePixel_changes (n i : Nat) (p : Ppu) (k : Nat) : ∃ l, p.drawSpritePixel n i k = { p with spriteLine := l } := by
  unfold drawSpritePixel
  dsimp only
  generalize p.patternPixel _ _ = pixel
  split <;> exact ⟨_, rfl⟩

/-- R325: a sprite changes the sprite line buffer. -/
theorem drawSprite_changes (n i : Nat) (p : Ppu) : ∃ l, p.drawSprite n i = { p with spriteLine := l } := by
  refine foldl_keeps (drawSpritePixel n i) (fun q => ∃ l, q = { p with spriteLine := l }) (fun q k hq => ?_) _ p ⟨_, rfl⟩
  obtain ⟨_, rfl⟩ := hq
  obtain ⟨_, hpixel⟩ := drawSpritePixel_changes n i _ k
  exact ⟨_, hpixel⟩

/-! ## The overflow flag (R325) -/

/-- The scan from a count of at most eight: sprites that cover the line, beyond the eighth, set the flag. -/
theorem scanSprites_spriteOverflow (n : Nat) (l : List Nat) {count : Nat} (hc : count ≤ 8) (p : Ppu) :
    (scanSprites n l count p).spriteOverflow = (p.spriteOverflow || decide (8 < count + l.countP (p.spriteCovers n))) := by
  induction l generalizing count p with
  | nil => simp [scanSprites, hc]
  | cons i l ih =>
    unfold scanSprites
    split
    case isTrue hcover =>
      rw [List.countP_cons_of_pos hcover]
      split
      case isTrue h8 =>
        have hmore : 8 < count + (l.countP (p.spriteCovers n) + 1) := by omega
        simp [hmore]
      case isFalse h8 =>
        obtain ⟨line, hdraw⟩ := drawSprite_changes n i p
        have hsame : spriteCovers { p with spriteLine := line } n = p.spriteCovers n := rfl
        rw [ih (by omega), hdraw, hsame, Nat.add_assoc, Nat.add_comm 1]
    case isFalse hcover =>
      rw [List.countP_cons_of_neg hcover, ih hc]

theorem spriteCovers_eq (p : Ppu) (n i : Nat) : p.spriteCovers n i =
    decide ((Memory.read p.oam (4 * i)).toNat ≤ n ∧ n < (Memory.read p.oam (4 * i)).toNat + p.spriteHeight) := by
  unfold spriteCovers oamByte
  congr 1
  apply propext
  omega

theorem renderLine_of_rendering {n : Nat} (hn : n < 240) {p : Ppu} (hon : p.renderingOn = true) (skip : Bool) :
    ∃ v hit frame, p.renderLine skip n = evaluateSprites n { p with v := v, sprite0Hit := hit, frame := frame } := by
  obtain ⟨_, _, _, hcolumns⟩ := renderColumns_changes skip n (List.range 256) (p, p.x)
  unfold renderLine
  rw [if_neg (Nat.not_le.2 hn), if_neg (by simp [hon])]
  dsimp only
  rw [hcolumns]
  exact ⟨_, _, _, rfl⟩

end Ppu

/-- Settles O53: no column touches what the scan reads, and the scan counts the covering sprites up to the ninth. -/
theorem spriteOverflow : Obligations.SpriteOverflow := by
  intro skip n p hn hon
  obtain ⟨_, _, _, hline⟩ := Ppu.renderLine_of_rendering hn hon skip
  rw [hline, Ppu.evaluateSprites, Ppu.scanSprites_spriteOverflow n _ (Nat.zero_le 8), Nat.zero_add]
  exact congrArg (fun f => p.spriteOverflow || decide (8 < (List.range 64).countP f)) (funext (Ppu.spriteCovers_eq p n))

namespace Ppu

/-! ## The picture apart (R322) -/

/-- The PPU with another picture. -/
def withFrame (f : Sparse (BitVec 32)) (p : Ppu) : Ppu := { p with frame := f }

section
variable (f : Sparse (BitVec 32)) (n : Nat)

theorem emit_skip (c : Nat) (e : BitVec 6) (p : Ppu) : p.emit true n c e = p := if_neg (by simp)

theorem emit_withFrame (c : Nat) (e : BitVec 6) (p : Ppu) : withFrame f (p.emit false n c e) = withFrame f p := by
  rw [emit_eq]; rfl

/-- A column in a skip-frame, whatever picture stands there, and the same column in a frame. -/
theorem renderColumn_withFrame (q : Ppu × BitVec 3) (c : Nat) :
    renderColumn true n (q.1.withFrame f, q.2) c = ((renderColumn false n q c).1.withFrame f, (renderColumn false n q c).2) := by
  unfold renderColumn composite
  dsimp only
  rw [emit_skip, emit_eq]
  split <;> rfl

theorem renderColumns_withFrame (l : List Nat) (q : Ppu × BitVec 3) :
    l.foldl (renderColumn true n) (q.1.withFrame f, q.2) =
      ((l.foldl (renderColumn false n) q).1.withFrame f, (l.foldl (renderColumn false n) q).2) :=
  List.foldl_hom (fun r : Ppu × BitVec 3 => (r.1.withFrame f, r.2)) (renderColumn_withFrame f n)

theorem drawSpritePixel_withFrame (i : Nat) (p : Ppu) (k : Nat) :
    drawSpritePixel n i (p.withFrame f) k = (drawSpritePixel n i p k).withFrame f := by
  unfold drawSpritePixel
  dsimp only
  rw [apply_ite (withFrame f)]
  rfl

theorem drawSprite_withFrame (i : Nat) (p : Ppu) : drawSprite n i (p.withFrame f) = (drawSprite n i p).withFrame f :=
  List.foldl_hom (withFrame f) fun q k => drawSpritePixel_withFrame f n i q k

theorem scanSprites_withFrame (l : List Nat) (count : Nat) (p : Ppu) :
    scanSprites n l count (p.withFrame f) = (scanSprites n l count p).withFrame f := by
  induction l generalizing count p with
  | nil => rfl
  | cons i l ih =>
    have hcovers : (p.withFrame f).spriteCovers n i = p.spriteCovers n i := rfl
    simp only [scanSprites, hcovers, drawSprite_withFrame, ih]
    split_ifs <;> rfl

theorem evaluateSprites_withFrame (p : Ppu) : evaluateSprites n (p.withFrame f) = (evaluateSprites n p).withFrame f :=
  scanSprites_withFrame f n _ 0 { p with spriteLine := [] }

theorem evaluateSprites_frame (p : Ppu) : (evaluateSprites n p).frame = p.frame :=
  (congrArg Ppu.frame (evaluateSprites_withFrame p.frame n p) :)

theorem renderLine_withFrame (p : Ppu) : renderLine true n (p.withFrame f) = (renderLine false n p).withFrame f := by
  have hon : (p.withFrame f).renderingOn = p.renderingOn := rfl
  have hcolumns := renderColumns_withFrame f n (List.range 256) (p, p.x)
  unfold renderLine
  generalize List.range 256 = columns at hcolumns ⊢
  rw [hon]
  split
  · rfl
  split
  · exact List.foldl_hom (withFrame f) fun q c => by rw [emit_skip, emit_withFrame]
  · dsimp only
    rw [← evaluateSprites_withFrame]
    dsimp only at hcolumns
    rw [show (p.withFrame f).x = p.x from rfl, hcolumns]
    rfl

end

/-! ## The picture's rows -/

/-- R322: a line's columns lie in its own row. -/
theorem emit_read_other {n r c k : Nat} (hc : c < 256) (hk : k < 256) (hr : r + 8 ≠ n) (skip : Bool) (e : BitVec 6) (p : Ppu) :
    Sparse.read 0 (p.emit skip n k e).frame (256 * r + c) = Sparse.read 0 p.frame (256 * r + c) := by
  unfold emit
  split
  · exact Sparse.read_write_other 0 p.frame _ (by omega)
  · rfl

theorem renderColumn_frame (skip : Bool) (n : Nat) (q : Ppu × BitVec 3) (c : Nat) :
    ∃ e hit, (renderColumn skip n q c).1.frame = (emit skip n c e { q.1 with sprite0Hit := hit }).frame := by
  unfold renderColumn composite
  dsimp only
  split <;> exact ⟨_, _, rfl⟩

theorem renderColumns_read_other {n r c : Nat} (hc : c < 256) (hr : r + 8 ≠ n) (skip : Bool) {l : List Nat}
    (hl : ∀ k ∈ l, k < 256) (q : Ppu × BitVec 3) :
    Sparse.read 0 (l.foldl (renderColumn skip n) q).1.frame (256 * r + c) = Sparse.read 0 q.1.frame (256 * r + c) := by
  refine foldl_keeps_mem (renderColumn skip n)
    (fun t => Sparse.read 0 t.1.frame (256 * r + c) = Sparse.read 0 q.1.frame (256 * r + c)) l (fun t k hk ht => ?_) q rfl
  obtain ⟨e, hit, hframe⟩ := renderColumn_frame skip n t k
  rw [hframe, emit_read_other hc (hl k hk) hr]
  exact ht

theorem renderLine_read_other {n r c : Nat} (hc : c < 256) (hr : r + 8 ≠ n) (skip : Bool) (p : Ppu) :
    Sparse.read 0 (p.renderLine skip n).frame (256 * r + c) = Sparse.read 0 p.frame (256 * r + c) := by
  have hcolumns : ∀ k ∈ List.range 256, k < 256 := fun k => List.mem_range.1
  unfold renderLine
  generalize List.range 256 = columns at hcolumns ⊢
  split
  · rfl
  split
  · exact foldl_keeps_mem _ (fun q => Sparse.read 0 q.frame (256 * r + c) = Sparse.read 0 p.frame (256 * r + c)) _
      (fun q k hk hq => (emit_read_other hc (hcolumns k hk) hr skip _ q).trans hq) p rfl
  · rw [evaluateSprites_frame]
    exact renderColumns_read_other hc hr skip hcolumns (p, p.x)

end Ppu

/-- Settles O54: a skip-frame's line runs beside the frame's with the picture held fixed, and each column writes in its row. -/
theorem skipFrameRender : Obligations.SkipFrameRender := fun n p =>
  ⟨Ppu.renderLine_withFrame p.frame n p, fun _ _ hc hr => Ppu.renderLine_read_other hc hr false p⟩

end Sys2Proof.Machine
end

section
/-! PROOFS. The CPU's reset and the constructed machine (R261, R415, R425, R480 to R482). -/

namespace Sys2Proof.Machine

open Sys2Proof.Spec

/-- Settles O34: the vector lies in PRG, where a read changes nothing. -/
theorem resetEffect : Obligations.ResetEffect := by
  intro s h
  have hvector : memRead16 0xFFFC (resetRegisters s) = (peekWord s (0xFFFC : Addr).toNat, resetRegisters s) :=
    memRead16_prg h (resetRegisters_busMap s) (resetRegisters_cart s) (by decide) (by decide)
  rw [doReset, hvector]
  rfl

/-- R53, R481: the machine before construction runs the mapper's `init`: the power-on column with the cartridge in place. -/
def powerOnWith (c : Cart) : State := powerOnState { State.reset with cart := c }

/-- R481, R482: the constructed machine has the reset registers and starts at the word in the last PRG bank. -/
theorem construct_eq (c : Cart) : ∃ busMap mapper ppu, construct c =
    { resetRegisters (powerOnWith c) with
      pc := adr (256 * (prgByte c (c.prgBanks - 1) 0x3FFD).toNat + (prgByte c (c.prgBanks - 1) 0x3FFC).toNat)
      busMap := busMap, mapper := mapper, ppu := ppu, orch := .powerOn } := by
  obtain ⟨busMap, mapper, pattern, hinst, ht⟩ := mapperInit_initialised .power none (powerOnWith c)
  have hbanks : (mapperInit .power none (powerOnWith c)).busMap = (mapPrg 0 (c.prgBanks - 1) (powerOnWith c)).busMap := by
    rw [ht]; exact hinst.banks
  have hboot := doReset_mapPrg hbanks
  conv_rhs at hboot => rw [ht]
  exact ⟨_, _, _, congrArg (fun s : State => { s with orch := { s.orch with needInit := true } }) hboot⟩

/-- Settles O46: construction runs the mapper's `init`, which puts the last bank at 0xC000, and then the reset. -/
theorem bootVector : Obligations.BootVector := by
  intro c hc
  obtain ⟨busMap, mapper, ppu, h⟩ := construct_eq c
  have hpc : (construct c).pc =
      adr (256 * (prgByte c (c.prgBanks - 1) 0x3FFD).toNat + (prgByte c (c.prgBanks - 1) 0x3FFC).toNat) := by rw [h]
  refine ⟨construct_inv hc, hpc, ?_, ?_, ?_, ?_, ?_, ?_, ?_, fun htwo => by rw [hpc, htwo]; rfl⟩ <;> (rw [h]; rfl)

end Sys2Proof.Machine
end

section
/-! PROOFS. Reading a controller bit by bit (R378). -/

namespace Sys2Proof.Machine

open Sys2Proof.Spec

theorem State.Inv.withPads {s : State} (h : s.Inv) (c : Pads) : ({ s with pads := c } : State).Inv :=
  ⟨h.1, h.2, h.3, h.4, h.5, h.6, h.7, h.8, h.9⟩

/-- R378: the shift register after a read with the strobe off: a 1 enters at its top. -/
def shiftedIn (b : Byte) : Byte := setBit (b >>> 1) 7 true

/-- R378: what the read after `k` reads gives: button `k`, and 1 from the ninth read on. -/
def padBit (b : Byte) (k : Nat) : Byte := if b.getLsbD k || decide (8 ≤ k) then 1 else 0

theorem padBit_zero (b : Byte) : padBit b 0 = b &&& 1 := by
  refine BitVec.eq_of_getLsbD_eq fun i hi => ?_
  rw [BitVec.getLsbD_and, padBit]
  by_cases h0 : i = 0
  · subst h0; cases b.getLsbD 0 <;> rfl
  · have hone : (1 : Byte).getLsbD i = false := by simpa using h0
    rw [hone, Bool.and_false]
    split
    · exact hone
    · exact BitVec.getLsbD_zero

theorem padBit_shiftedIn (b : Byte) (k : Nat) : padBit (shiftedIn b) k = padBit b (k + 1) := by
  suffices h : ((shiftedIn b).getLsbD k || decide (8 ≤ k)) = (b.getLsbD (k + 1) || decide (8 ≤ k + 1)) by
    rw [padBit, padBit, h]
  by_cases hk : k < 8
  · rw [shiftedIn, getLsbD_setBit _ _ _ _ hk, BitVec.getLsbD_ushiftRight, Nat.add_comm 1 k]
    by_cases h7 : k = 7
    · simp [h7]
    · simp [h7, show ¬ 8 ≤ k by omega, show ¬ 7 ≤ k by omega]
  · simp [show 8 ≤ k by omega, show 7 ≤ k by omega]

/-- R378: a port that gives the low bit of a shift register and shifts it, read again and again, gives the register's bits in turn. -/
theorem read_after_reads {a : Addr} {get : Pads → Byte} {put : Byte → Pads → Pads}
    (hread : ∀ t : State, t.Inv → t.pads.strobe = false →
      memRead a t = (get t.pads &&& 1, { t with pads := put (shiftedIn (get t.pads)) t.pads }))
    (hget : ∀ b c, get (put b c) = b) (hstrobe : ∀ b c, (put b c).strobe = c.strobe)
    (k : Nat) {t : State} (ht : t.Inv) (hoff : t.pads.strobe = false) :
    (memRead a (Nat.iterate (fun u => (memRead a u).2) k t)).1 = padBit (get t.pads) k := by
  induction k generalizing t with
  | zero => rw [Nat.iterate, hread t ht hoff, padBit_zero]
  | succ k ih =>
    rw [Nat.iterate, hread t ht hoff, ih (ht.withPads _) ((hstrobe _ _).trans hoff), hget, padBit_shiftedIn]

theorem memRead_pad1 (t : State) (ht : t.Inv) (hoff : t.pads.strobe = false) : memRead (adr 0x4016) t =
    (t.pads.padShift1 &&& 1, { t with pads := { t.pads with padShift1 := shiftedIn t.pads.padShift1 } }) := by
  refine (memRead_window (n := 0x16) ht (by decide)).trans ?_
  show (t.pads.readPad1.1, { t with pads := t.pads.readPad1.2 }) = _
  simp only [Pads.readPad1, Pads.serial, hoff, Bool.false_eq_true, if_false, shiftedIn]

theorem memRead_pad2 (t : State) (ht : t.Inv) (hoff : t.pads.strobe = false) : memRead (adr 0x4017) t =
    (t.pads.padShift2 &&& 1, { t with pads := { t.pads with padShift2 := shiftedIn t.pads.padShift2 } }) := by
  refine (memRead_window (n := 0x17) ht (by decide)).trans ?_
  show (t.pads.readPad2.1, { t with pads := t.pads.readPad2.2 }) = _
  simp only [Pads.readPad2, Pads.serial, hoff, Bool.false_eq_true, if_false, shiftedIn]

/-- R378: raising and lowering the strobe loads both shift registers. -/
theorem memWrite_strobe_twice {s : State} (h : s.Inv) :
    memWrite (adr 0x4016) 0 (memWrite (adr 0x4016) 1 s) =
      { s with pads := { s.pads with strobe := false, padShift1 := s.pads.buttons1, padShift2 := s.pads.buttons2 } } := by
  have hwrite : ∀ {t : State}, t.Inv → ∀ d, memWrite (adr 0x4016) d t = { t with pads := t.pads.writeStrobe d } :=
    fun ht d => memWrite_window (n := 0x16) ht (by decide) d
  rw [hwrite h, hwrite (h.withPads _)]
  rfl

/-- Settles O56: the strobe loads the registers with the buttons, and each port's reads give its register's bits in turn. -/
theorem padProtocol : Obligations.PadProtocol := by
  intro s k h
  rw [memWrite_strobe_twice h]
  exact ⟨read_after_reads (put := fun b c => { c with padShift1 := b }) memRead_pad1 (fun _ _ => rfl) (fun _ _ => rfl)
      k (h.withPads _) rfl,
    read_after_reads (put := fun b c => { c with padShift2 := b }) memRead_pad2 (fun _ _ => rfl) (fun _ _ => rfl)
      k (h.withPads _) rfl⟩

end Sys2Proof.Machine
end

section
/-! PROOFS. The sprite DMA (R76, R380). -/

namespace Sys2Proof.Machine

open Sys2Proof.Spec

/-! ## Pages without side effects (R72, R73) -/

/-- R72, R73: outside the PPU's and the APU's windows an address is plain. -/
theorem plain_of_inv {s : State} (h : s.Inv) {a : Addr} (ha : a.toNat < 0x2000 ∨ 0x4020 ≤ a.toNat) : plain s a := by
  by_cases hwram : a.toNat < 0x2000
  · exact plain_of_lookup (lookup_wram h hwram) (by decide) (by decide)
  by_cases hprg : 0x8000 ≤ a.toNat
  · obtain ⟨base, n, hl⟩ := lookup_prg h hprg
    exact plain_of_lookup hl (by simp) (by simp)
  by_cases hsave : 0x6000 ≤ a.toNat ∧ s.cart.battery = true
  · exact plain_of_lookup (lookup_saveWindow h hsave.1 (by omega) hsave.2) (by decide) (by decide)
  · have hopen : (0x4020 ≤ a.toNat ∧ a.toNat < 0x6000) ∨ (0x6000 ≤ a.toNat ∧ a.toNat < 0x8000 ∧ s.cart.battery = false) := by
      rcases Nat.lt_or_ge a.toNat 0x6000 with hlt | hge
      · exact .inl ⟨by omega, hlt⟩
      · exact .inr ⟨hge, by omega, Bool.eq_false_iff.2 fun hbat => hsave ⟨hge, hbat⟩⟩
    obtain ⟨n, hl⟩ := lookup_openDev h hopen
    exact plain_of_lookup hl (by decide) (by decide)

/-- R72: a plain read answers the same whatever the PPU holds, and changes nothing. -/
theorem memRead_withPpu {s : State} {a : Addr} (h : plain s a) (p : Ppu) :
    memRead a { s with ppu := p } = (peek s a, { s with ppu := p }) := by
  obtain ⟨hppu, hapu⟩ := h
  simp only [peek, memRead]
  generalize BusMap.lookup s.busMap a.toNat = r at hppu hapu
  obtain ⟨dev, n⟩ := r
  cases dev with
  | ppuPorts => exact absurd rfl hppu
  | apuIo => exact absurd rfl hapu
  | wram | openDev | saveRam | prg base => rfl

/-! ## The copy (R380) -/

/-- `oam` holds the first `n` bytes of page `d` from `base` on, wrapping. -/
def HoldsPage (s : State) (d base : Byte) (n : Nat) (oam : Memory) : Prop :=
  ∀ i, i < n → Memory.read oam ((base.toNat + i) % 256) = peek s (adr (256 * d.toNat + i))

/-- The `n`-th byte goes to a place of its own while `n < 256`. -/
theorem HoldsPage.write {s : State} {d base : Byte} {n : Nat} {oam : Memory} (h : HoldsPage s d base n oam) (hn : n < 256) :
    HoldsPage s d base (n + 1)
      (Memory.write oam ((base.toNat + n) % 256) (peek s (adr (256 * d.toNat + n)))) := by
  intro i hi
  rw [Memory.read_write]
  by_cases hin : i = n
  · rw [if_pos (by rw [hin]), hin]
  · rw [if_neg (by omega)]
    exact h i (by omega)

/-- R380: the first `n` bytes of the sprite DMA of a plain page change OAM alone. -/
theorem oamDmaBytes_eq {s : State} {d : Byte} (hplain : ∀ i, i < 256 → plain s (adr (256 * d.toNat + i))) (base : Byte)
    {n : Nat} (hn : n ≤ 256) : ∃ oam, HoldsPage s d base n oam ∧
      (List.range n).foldl (oamDmaByte d base) s = { s with ppu := { s.ppu with oam := oam } } := by
  induction n with
  | zero => exact ⟨s.ppu.oam, fun i hi => absurd hi (Nat.not_lt_zero i), rfl⟩
  | succ n ih =>
    obtain ⟨oam, hoam, hfold⟩ := ih (by omega)
    refine ⟨_, hoam.write hn, ?_⟩
    have hread := memRead_withPpu (hplain n hn) { s.ppu with oam := oam }
    rw [List.range_succ, List.foldl_append, hfold, List.foldl_cons, List.foldl_nil, oamDmaByte]
    exact congrArg (fun r : Byte × State =>
      ({ r.2 with ppu := { r.2.ppu with oam := Memory.write r.2.ppu.oam ((base.toNat + n) % 256) r.1 } } : State)) hread

/-- Settles O57: every byte of the page is a plain read, and the 256 bytes go to 256 places. -/
theorem spriteDma : Obligations.SpriteDma := by
  intro s d h hd
  have hdlt := d.isLt
  have hplain : ∀ i, i < 256 → plain s (adr (256 * d.toNat + i)) := by
    intro i hi
    have hadr : (adr (256 * d.toNat + i)).toNat = 256 * d.toNat + i := adr_toNat_of_lt (by omega)
    exact plain_of_inv h (by omega)
  obtain ⟨oam, hoam, hfold⟩ := oamDmaBytes_eq hplain s.ppu.oamAddr (Nat.le_refl 256)
  have hwrite : memWrite (adr 0x4014) d s = oamDma d s := memWrite_window (n := 0x14) h (by decide) d
  refine ⟨oam, ?_, hoam⟩
  rw [hwrite, oamDma, hfold]
  rfl

end Sys2Proof.Machine
end

section
/-! PROOFS. Mapper 1: the serial writes and the banks that its registers select (R79, R421 to R426). -/

namespace Sys2Proof.Machine

open Sys2Proof.Spec

/-! ## A write to a PRG window (R79, R436) -/

theorem memWrite_mmc {s : State} (h : s.Inv) (hid : s.cart.mapperId = 1) {a : Nat} (h1 : 0x8000 ≤ a) (h2 : a < 0x10000)
    (d : Byte) : memWrite (adr a) d s = mmcWrite (adr a) d s := by
  have hadr : (adr a).toNat = a := adr_toNat_of_lt h2
  obtain ⟨base, n, hl⟩ := lookup_prg h (a := adr a) (by omega)
  simp only [memWrite, hl, deviceWrite, mapperWrite, if_pos hid]

/-! ## The selected banks (R422, R423) -/

theorem mmcPrgBanks_eq (s : State) :
    mmcPrgBanks s = selectedBanks s.mapper.mmcControl.toNat s.mapper.mmcPrg.toNat s.cart.prgBanks := by
  have hprg : (s.mapper.mmcPrg.extractLsb' 0 4).toNat = s.mapper.mmcPrg.toNat % 16 := by
    simp
  have hmode : (mmcPrgMode s).toNat = s.mapper.mmcControl.toNat / 4 % 4 := toNat_extractLsb' _ 2 2
  unfold mmcPrgBanks selectedBanks
  rw [hprg, hmode]
  generalize s.mapper.mmcControl.toNat / 4 % 4 = mode
  dsimp only
  split
  · rfl
  · rfl
  · rename_i h2 h3
    rw [if_neg h2, if_neg h3]

/-- R423: after `ApplyPrg` the windows show the selected banks. -/
theorem showsBanks_applyPrg {s t : State} (h : t.busMap = (applyPrg s).busMap) :
    showsBanks t (selectedBanks s.mapper.mmcControl.toNat s.mapper.mmcPrg.toNat s.cart.prgBanks).1
      (selectedBanks s.mapper.mmcControl.toNat s.mapper.mmcPrg.toNat s.cart.prgBanks).2 := by
  rw [← mmcPrgBanks_eq]
  exact showsBanks_mapPrg h

/-! ## A write with bit 7 set (R421) -/

theorem mmcWrite_of_reset {d : Byte} (hd : d.getLsbD 7 = true) (a : Addr) (s : State) :
    mmcWrite a d s = applyPrg { s with mapper := { s.mapper with
      mmcShift := 0, mmcCount := 0, mmcControl := s.mapper.mmcControl ||| 0x0C } } := if_pos hd

theorem selectedBanks_or (control : BitVec 5) (prg n : Nat) :
    selectedBanks (control ||| 0x0C).toNat prg n = (prg % 16 % n, n - 1) := by
  have hmode : ∀ c : BitVec 5, (c ||| 0x0C).toNat / 4 % 4 = 3 := by decide
  rw [selectedBanks, hmode]
  rfl

/-- Settles O44: bits 3 and 2 select the PRG mode that shows the register's bank and the last one. -/
theorem mmc1ResetWrite : Obligations.Mmc1ResetWrite := by
  intro s a d h hid h1 h2 hd
  rw [memWrite_mmc h hid h1 h2, mmcWrite_of_reset hd]
  refine ⟨rfl, rfl, rfl, ?_, fun b hb => lookup_mapPrg_of_lt hb _ _ _, rfl, rfl, rfl, rfl⟩
  have hshows := showsBanks_applyPrg (t := applyPrg { s with mapper := { s.mapper with
    mmcShift := 0, mmcCount := 0, mmcControl := s.mapper.mmcControl ||| 0x0C } }) rfl
  rwa [selectedBanks_or] at hshows

/-! ## The first four writes (R421) -/

/-- The accumulator holding the number `v` in its first `c` bits. -/
def withAccumulator (v c : Nat) (s : State) : State :=
  { s with mapper := { s.mapper with mmcShift := BitVec.ofNat 5 v, mmcCount := c } }

/-- A serial write puts bit 0 of its byte above the `c` bits collected. -/
theorem accumulate (v c : Nat) (d : Byte) :
    BitVec.ofNat 5 v + ((d.extractLsb' 0 1).setWidth 5 <<< c) = BitVec.ofNat 5 (v + 2 ^ c * (d.toNat % 2)) := by
  have hbit : ((d.extractLsb' 0 1).setWidth 5).toNat = d.toNat % 2 := by
    rw [BitVec.toNat_setWidth, toNat_extractLsb']
    omega
  apply BitVec.eq_of_toNat_eq
  rw [BitVec.toNat_add, BitVec.toNat_shiftLeft, hbit, Nat.shiftLeft_eq]
  simp only [BitVec.toNat_ofNat, ← Nat.add_mod, Nat.mul_comm]

theorem mmcWrite_collect {d : Byte} (hd : d.getLsbD 7 = false) (a : Addr) {v c : Nat} (hc : c ≠ 4) (s : State) :
    mmcWrite a d (withAccumulator v c s) = withAccumulator (v + 2 ^ c * (d.toNat % 2)) (c + 1) s := by
  have hcount : ¬ c + 1 = 5 := by omega
  simp only [mmcWrite, withAccumulator, hd, Bool.false_eq_true, if_false, if_neg hcount, accumulate]

theorem mmcWrite_fifth {d : Byte} (hd : d.getLsbD 7 = false) (a : Addr) (v : Nat) (s : State) :
    mmcWrite a d (withAccumulator v 4 s) = mmcLoad a (BitVec.ofNat 5 (v + 2 ^ 4 * (d.toNat % 2))) (withAccumulator 0 0 s) := by
  simp only [mmcWrite, withAccumulator, hd, Bool.false_eq_true, if_false, if_true, accumulate]
  rfl

theorem withAccumulator_self {s : State} (hshift : s.mapper.mmcShift = 0) (hcount : s.mapper.mmcCount = 0) :
    withAccumulator 0 0 s = s := by
  have hm : ({ s.mapper with mmcShift := BitVec.ofNat 5 0, mmcCount := 0 } : Mapper) = s.mapper := by
    rw [show BitVec.ofNat 5 0 = s.mapper.mmcShift from hshift.symm, ← hcount]
  exact congrArg (fun m => { s with mapper := m }) hm

theorem State.Inv.withAccumulator {s : State} (h : s.Inv) (v : Nat) {c : Nat} (hc : c < 5) : (withAccumulator v c s).Inv :=
  ⟨h.1, h.2, h.3, h.4, h.5, hc, h.7, h.8, h.9⟩

/-! ## The fifth write (R421 to R426) -/

/-- R421: register `k` loaded with `v`. -/
def loadedRegs (k : Nat) (v : BitVec 5) (m : Mapper) : Mapper :=
  { m with
    mmcControl := if k = 0 then v else m.mmcControl
    mmcChr0 := if k = 1 then v else m.mmcChr0
    mmcChr1 := if k = 2 then v else m.mmcChr1
    mmcPrg := if k = 3 then v else m.mmcPrg }

/-- R424: `ApplyChr` changes the pattern memory alone. -/
theorem applyChr_changes (s : State) : ∃ pattern, applyChr s = { s with ppu := { s.ppu with pattern := pattern } } := by
  unfold applyChr
  split
  · exact ⟨s.ppu.pattern, rfl⟩
  · obtain ⟨m0, hm0, -⟩ := pushChr_pattern (a := 0) (n := 4096) (by decide) (4096 * (mmcChrUnits s).1) s
    obtain ⟨m1, hm1, -⟩ := pushChr_pattern (a := 0x1000) (n := 4096) (by decide) (4096 * (mmcChrUnits s).2)
      { s with ppu := { s.ppu with pattern := m0 } }
    exact ⟨m1, by rw [hm0, hm1]⟩

theorem mmcMirroring_eq (c : BitVec 5) : mmcMirroring (c.extractLsb' 0 2) =
    [.singleLow, .singleHigh, .vertical, .horizontal].getD (c.toNat % 4) .singleLow := by
  revert c
  decide

/-- R426: `ApplyMirroring` changes the mirroring alone, and follows the control register unless the cartridge has four screens. -/
theorem applyMirroring_changes (s : State) : ∃ m, applyMirroring s = { s with ppu := { s.ppu with mirroring := m } } ∧
    (s.cart.defaultMirroring ≠ .fourScreen →
      m = [.singleLow, .singleHigh, .vertical, .horizontal].getD (s.mapper.mmcControl.toNat % 4) .singleLow) := by
  unfold applyMirroring
  split
  · rename_i hfour
    exact ⟨s.ppu.mirroring, rfl, fun hne => absurd hfour hne⟩
  · exact ⟨_, rfl, fun _ => mmcMirroring_eq _⟩

/-- What the load of register `k` leaves: the register, the bus table, the pattern memory and the mirroring. -/
structure Loads (k : Nat) (v : BitVec 5) (s t : State) : Prop where
  shape : ∃ busMap pattern mirroring, t = { s with
    mapper := loadedRegs k v s.mapper, busMap := busMap, ppu := { s.ppu with pattern := pattern, mirroring := mirroring } }
  banks : k = 0 ∨ k = 3 → t.busMap = (applyPrg { s with mapper := loadedRegs k v s.mapper }).busMap
  mirroring : k = 0 → s.cart.defaultMirroring ≠ .fourScreen →
    t.ppu.mirroring = [.singleLow, .singleHigh, .vertical, .horizontal].getD (v.toNat % 4) .singleLow

theorem mmcLoad_loads {a : Addr} {k : Nat} (hk : (a.extractLsb' 13 2).toNat = k) (v : BitVec 5) (s : State) :
    Loads k v s (mmcLoad a v s) := by
  have hlt : k < 4 := hk ▸ BitVec.isLt _
  unfold mmcLoad
  rw [hk]
  match k, hlt with
  | 0, _ =>
    obtain ⟨m, hm, hmirror⟩ := applyMirroring_changes { s with mapper := { s.mapper with mmcControl := v } }
    obtain ⟨pattern, hchr⟩ := applyChr_changes (applyPrg { s with
      mapper := { s.mapper with mmcControl := v }, ppu := { s.ppu with mirroring := m } })
    simp only [hm, hchr]
    exact ⟨⟨_, _, _, rfl⟩, fun _ => rfl, fun _ => hmirror⟩
  | 1, _ =>
    obtain ⟨pattern, hchr⟩ := applyChr_changes { s with mapper := { s.mapper with mmcChr0 := v } }
    simp only [hchr]
    exact ⟨⟨_, _, _, rfl⟩, fun h => by omega, fun h => by omega⟩
  | 2, _ =>
    obtain ⟨pattern, hchr⟩ := applyChr_changes { s with mapper := { s.mapper with mmcChr1 := v } }
    simp only [hchr]
    exact ⟨⟨_, _, _, rfl⟩, fun h => by omega, fun h => by omega⟩
  | 3, _ => exact ⟨⟨_, _, _, rfl⟩, fun _ => rfl, fun h => by omega⟩

/-- R421: five serial writes from an empty accumulator are one load by the fifth address. -/
theorem serial5_eq {s : State} {a0 a1 a2 a3 a4 : Nat} {d0 d1 d2 d3 d4 : Byte} (h : s.Inv) (hid : s.cart.mapperId = 1)
    (hshift : s.mapper.mmcShift = 0) (hcount : s.mapper.mmcCount = 0)
    (ha : ∀ a ∈ [a0, a1, a2, a3, a4], 0x8000 ≤ a ∧ a < 0x10000) (hd : ∀ d ∈ [d0, d1, d2, d3, d4], d.getLsbD 7 = false) :
    serial5 [(a0, d0), (a1, d1), (a2, d2), (a3, d3), (a4, d4)] s = mmcLoad (adr a4) (BitVec.ofNat 5 (d0.toNat % 2 +
      2 * (d1.toNat % 2) + 4 * (d2.toNat % 2) + 8 * (d3.toNat % 2) + 16 * (d4.toNat % 2))) s := by
  have hself := withAccumulator_self hshift hcount
  have hwrite : ∀ {a : Nat} {d : Byte} (v : Nat) {c : Nat}, a ∈ [a0, a1, a2, a3, a4] → c < 5 →
      memWrite (adr a) d (withAccumulator v c s) = mmcWrite (adr a) d (withAccumulator v c s) :=
    fun v _ hmem hc => memWrite_mmc (h.withAccumulator v hc) hid (ha _ hmem).1 (ha _ hmem).2 _
  have hcollect : ∀ {a : Nat} {d : Byte} (v : Nat) {c : Nat}, a ∈ [a0, a1, a2, a3, a4] → d ∈ [d0, d1, d2, d3, d4] → c < 4 →
      memWrite (adr a) d (withAccumulator v c s) = withAccumulator (v + 2 ^ c * (d.toNat % 2)) (c + 1) s :=
    fun v _ hmem hmem' hc => (hwrite v hmem (by omega)).trans (mmcWrite_collect (hd _ hmem') _ (by omega) s)
  show memWrite (adr a4) d4 (memWrite (adr a3) d3 (memWrite (adr a2) d2 (memWrite (adr a1) d1 (memWrite (adr a0) d0 s)))) = _
  conv_lhs => rw [← hself]
  rw [hcollect 0 (by simp) (by simp) (by decide), hcollect _ (by simp) (by simp) (by decide),
    hcollect _ (by simp) (by simp) (by decide), hcollect _ (by simp) (by simp) (by decide),
    hwrite _ (by simp) (by decide), mmcWrite_fifth (hd d4 (by simp)), hself]
  simp only [Nat.zero_add, Nat.pow_zero, Nat.one_mul, Nat.reducePow, Nat.reduceAdd]

/-- Settles O45: the five writes are one load, and the load's register, windows and mirroring are those of the rules. -/
theorem mmc1SerialLoad : Obligations.Mmc1SerialLoad := by
  intro s a0 a1 a2 a3 a4 d0 d1 d2 d3 d4 h hid hshift hcount ha hd
  have hk : ((adr a4).extractLsb' 13 2).toNat = a4 / 0x2000 % 4 := by
    simp only [toNat_extractLsb', adr_toNat_of_lt (ha a4 (by simp)).2, Nat.reducePow]
  obtain ⟨⟨busMap, pattern, mirroring, ht⟩, hbanks, hmirror⟩ := mmcLoad_loads hk (BitVec.ofNat 5 (d0.toNat % 2 +
    2 * (d1.toNat % 2) + 4 * (d2.toNat % 2) + 8 * (d3.toNat % 2) + 16 * (d4.toNat % 2))) s
  rw [serial5_eq h hid hshift hcount ha hd]
  intro t v k
  have hv : (BitVec.ofNat 5 v).toNat % 4 = v % 4 := by
    rw [BitVec.toNat_ofNat]
    omega
  have hmapper : t.mapper = loadedRegs k (BitVec.ofNat 5 v) s.mapper := congrArg State.mapper ht
  rw [hv] at hmirror
  refine ⟨?_, ?_, ?_, ?_, ?_, ?_, fun hprg => ?_, hmirror, ?_, ?_, ?_, ?_⟩
  · rw [hmapper]; exact hshift
  · rw [hmapper]; exact hcount
  · rw [hmapper]; rfl
  · rw [hmapper]; rfl
  · rw [hmapper]; rfl
  · rw [hmapper]; rfl
  · have hshows := showsBanks_applyPrg (hbanks hprg)
    rw [hmapper]
    exact hshows
  · exact congrArg (fun u => u.wram) ht
  · exact congrArg (fun u => u.saveRam) ht
  · exact congrArg (fun u => u.ppu.oam) ht
  · exact congrArg (fun u => u.ppu.nt) ht

end Sys2Proof.Machine
end

section
/-! PROOFS. Parsing a cartridge image (R410, R411, R413). -/

namespace Sys2Proof.Machine

open Sys2Proof.Spec

/-- R410, R411: an image has the header: 16 bytes, the magic first. -/
def HasHeader (image : List Byte) : Prop := 16 ≤ image.length ∧ image.take 4 = [0x4E, 0x45, 0x53, 0x1A]

theorem parseImage_of_header {image : List Byte} (h : HasHeader image) :
    parseImage image = parseBody image (image.getD 4 0) (image.getD 5 0) (image.getD 6 0) (image.getD 7 0) := by
  obtain ⟨hlen, htake⟩ := h
  match image, hlen, htake with
  | _ :: _ :: _ :: _ :: b4 :: b5 :: b6 :: b7 :: _ :: _ :: _ :: _ :: _ :: _ :: _ :: _ :: rest, _, htake =>
    simp only [List.take_succ_cons, List.take_zero, List.cons.injEq, and_true] at htake
    obtain ⟨rfl, rfl, rfl, rfl⟩ := htake
    rfl

theorem header_of_parseImage {image : List Byte} {c : Cart} (h : parseImage image = .ok c) : HasHeader image := by
  unfold parseImage at h
  split at h
  · exact ⟨by simp only [List.length_cons]; omega, rfl⟩
  · cases h

/-- R410: the mapper id from the two high nibbles. -/
theorem mapperId_eq (b6 b7 : Byte) :
    (b6.extractLsb' 4 4).toNat + 16 * (b7.extractLsb' 4 4).toNat = b6.toNat / 16 + 16 * (b7.toNat / 16) := by
  have h6 := b6.isLt
  have h7 := b7.isLt
  simp only [toNat_extractLsb', Nat.reducePow]
  omega

/-- R410, R413: the cartridge of an accepted image. -/
def imageCart (image : List Byte) : Cart where
  prgBanks := (image.getD 4 0).toNat
  chrBanks := (image.getD 5 0).toNat
  mapperId := headerMapper image
  defaultMirroring := headerMirroring (image.getD 6 0)
  battery := (image.getD 6 0).getLsbD 1
  trainer := (image.getD 6 0).getLsbD 2
  prg := Sparse.ofList 0 0 ((image.drop (headerStart image)).take (16384 * (image.getD 4 0).toNat))
  chr := Sparse.ofList 0 0
    ((image.drop (headerStart image + 16384 * (image.getD 4 0).toNat)).take (8192 * (image.getD 5 0).toNat))
  identity := image

/-- R411: what else an image must have: an admitted mapper, a PRG bank, and as many bytes as the header says. -/
def HasBody (image : List Byte) : Prop :=
  headerMapper image ∈ [0, 1] ∧ image.getD 4 0 ≠ 0 ∧
    headerStart image + 16384 * (image.getD 4 0).toNat + 8192 * (image.getD 5 0).toNat ≤ image.length

theorem parseBody_eq (image : List Byte) :
    parseBody image (image.getD 4 0) (image.getD 5 0) (image.getD 6 0) (image.getD 7 0) =
      if Config.mapperIds.contains (headerMapper image) = false then .error (.badMapper (headerMapper image))
      else if image.getD 4 0 = 0 then .error .noPrg
      else if image.length < headerStart image + 16384 * (image.getD 4 0).toNat + 8192 * (image.getD 5 0).toNat then
        .error .shortFile
      else .ok (imageCart image) := by
  simp only [parseBody, mapperId_eq]
  rfl

theorem mapperIds_contains (id : Nat) : Config.mapperIds.contains id = true ↔ id ∈ [0, 1] := List.contains_iff_mem

/-- R411: the body is accepted when none of the three refusals applies. -/
theorem parseBody_eq_ok_iff (image : List Byte) (c : Cart) :
    parseBody image (image.getD 4 0) (image.getD 5 0) (image.getD 6 0) (image.getD 7 0) = .ok c ↔
      HasBody image ∧ c = imageCart image := by
  rw [parseBody_eq]
  split
  · rename_i hid
    have hnot : ¬ HasBody image := fun h => by
      rw [(mapperIds_contains _).2 h.1] at hid
      cases hid
    simp [hnot]
  split
  · rename_i hprg
    have hnot : ¬ HasBody image := fun h => h.2.1 hprg
    simp [hnot]
  split
  · rename_i hshort
    have hnot : ¬ HasBody image := fun h => Nat.not_lt.2 h.2.2 hshort
    simp [hnot]
  · rename_i hid hprg hlen
    have hbody : HasBody image := ⟨(mapperIds_contains _).1 (by simpa using hid), hprg, Nat.not_lt.1 hlen⟩
    simp only [Except.ok.injEq, hbody, true_and, eq_comm]

/-- R411: the accepted images and their cartridges. -/
theorem parseImage_eq_ok_iff (image : List Byte) (c : Cart) :
    parseImage image = .ok c ↔ HasHeader image ∧ HasBody image ∧ c = imageCart image := by
  by_cases h : HasHeader image
  · rw [parseImage_of_header h, parseBody_eq_ok_iff, and_iff_right h]
  · exact ⟨fun hc => absurd (header_of_parseImage hc) h, fun hc => absurd hc.1 h⟩

/-- R410: byte `o` of a block of the image. -/
theorem read_block (image : List Byte) {start size o : Nat} (ho : o < size) :
    Memory.read (Sparse.ofList 0 0 ((image.drop start).take size)) o = image.getD (start + o) 0 := by
  have hread := Sparse.read_ofList (z := (0 : Byte)) (l := (image.drop start).take size) (a := 0) (i := o)
  rw [Nat.zero_add] at hread
  rw [Memory.read, hread]
  simp only [List.getD_eq_getElem?_getD, List.getElem?_take_of_lt ho, List.getElem?_drop]

theorem wf_block (image : List Byte) (start size : Nat) :
    Memory.wf size (Sparse.ofList 0 0 ((image.drop start).take size)) = true :=
  Sparse.wf_ofList (List.length_take_le _ _)

theorem imageCart_ok {image : List Byte} (h : HasBody image) : (imageCart image).Ok := by
  obtain ⟨hid, hprg, -⟩ := h
  refine ⟨Nat.pos_of_ne_zero fun h0 => hprg (BitVec.eq_of_toNat_eq h0), (mapperIds_contains _).2 hid, wf_block _ _ _, wf_block _ _ _⟩

/-- Settles O47: the refusals one by one, and the cartridge field by field. -/
theorem imageParsed : Obligations.ImageParsed := by
  intro image
  refine ⟨⟨?_, ?_⟩, fun c hc => ?_⟩
  · rintro ⟨c, hc⟩
    obtain ⟨⟨hlen, hmagic⟩, hbody, -⟩ := (parseImage_eq_ok_iff image c).1 hc
    exact ⟨hlen, hmagic, hbody⟩
  · rintro ⟨hlen, hmagic, hbody⟩
    exact ⟨imageCart image, (parseImage_eq_ok_iff image _).2 ⟨⟨hlen, hmagic⟩, hbody, rfl⟩⟩
  · obtain ⟨-, hbody, rfl⟩ := (parseImage_eq_ok_iff image c).1 hc
    exact ⟨rfl, rfl, rfl, rfl, rfl, rfl, fun o ho => read_block image ho, fun o ho => read_block image ho, imageCart_ok hbody⟩

end Sys2Proof.Machine
end

section
/-! PROOFS. The units and the samples of the channels that do not touch the bus (R376, R382, R383, R390 to R393, R395). -/

namespace Sys2Proof.Machine

open Sys2Proof.Spec

/-! ## The sequence's clocks (R376) -/

theorem sequencerClocks_half {mode : Bool} {index : Nat} (h : index ≤ if mode then 4 else 3) :
    (sequencerClocks mode index).2 = halfFrame mode index := by
  cases mode with
  | false =>
    have hi : index ≤ 3 := h
    interval_cases index <;> rfl
  | true =>
    have hi : index ≤ 4 := h
    interval_cases index <;> rfl

/-! ## The length counters (R383) -/

theorem toNat_lengthClock (halt : Bool) (n : Byte) : (lengthClock halt n).toNat = lengthAfter halt n.toNat := by
  unfold lengthClock lengthAfter
  cases halt with
  | true => rfl
  | false =>
    simp only [true_and, Bool.false_eq_true, if_false]
    split
    · bv_omega
    · rename_i h0
      obtain rfl : n = 0 := by simpa using h0
      rfl

/-- R383: a length counter after the units' clocks. -/
theorem toNat_ite_lengthClock (h halt : Bool) (n : Byte) :
    (if h then lengthClock halt n else n).toNat = if h then lengthAfter halt n.toNat else n.toNat := by
  cases h with
  | false => rfl
  | true => exact toNat_lengthClock halt n

theorem Envelope.clock_lengthHalt (e : Envelope) : e.clock.lengthHalt = e.lengthHalt := by
  unfold clock
  repeat' split
  all_goals rfl

theorem Pulse.sweepClock_length (first : Bool) (c : Pulse) : (c.sweepClock first).length = c.length := by
  unfold sweepClock
  dsimp only
  repeat' split
  all_goals rfl

theorem Pulse.clockUnits_length (first h q : Bool) (c : Pulse) :
    (c.clockUnits first h q).length = if h then lengthClock c.env.lengthHalt c.length else c.length := by
  unfold clockUnits
  cases h <;> cases q <;> simp [sweepClock_length, Envelope.clock_lengthHalt]

theorem Triangle.linearClock_keeps (c : Triangle) : c.linearClock.linControl = c.linControl ∧ c.linearClock.length = c.length := by
  unfold linearClock
  dsimp only
  repeat' split
  all_goals exact ⟨rfl, rfl⟩

theorem Triangle.clockUnits_length (h q : Bool) (c : Triangle) :
    (c.clockUnits h q).length = if h then lengthClock c.linControl c.length else c.length := by
  obtain ⟨hhalt, hlength⟩ := c.linearClock_keeps
  unfold clockUnits
  cases h <;> cases q <;> simp [hhalt, hlength]

theorem Noise.clockUnits_length (h q : Bool) (c : Noise) :
    (c.clockUnits h q).length = if h then lengthClock c.env.lengthHalt c.length else c.length := by
  unfold clockUnits
  cases h <;> cases q <;> simp [Envelope.clock_lengthHalt]

/-! ## A channel's samples (R390, R395) -/

theorem length_sampleLoop {γ : Type} (amp : γ → Nat) (adv : γ → γ) (n : Nat) (c : γ) : (sampleLoop amp adv n c).1.length = n := by
  induction n generalizing c with
  | zero => rfl
  | succ n ih => exact congrArg (· + 1) (ih (adv c))

theorem length_mixSlice {n : Nat} {o1 o2 ot on od : List Nat} (h1 : o1.length = n) (h2 : o2.length = n) (ht : ot.length = n)
    (hn : on.length = n) (hd : od.length = n) : (mixSlice o1 o2 ot on od).length = n := by
  simp [mixSlice, h1, h2, ht, hn, hd]

theorem Pulse.advance_length (clocks : Rat) (c : Pulse) : (c.advance clocks).length = c.length :=
  iterate_keeps tick (fun d => d.length = c.length) (fun _ hd => hd) _ _ rfl

theorem Triangle.tick_length (c : Triangle) : c.tick.length = c.length := by
  unfold tick
  split <;> rfl

theorem Triangle.advance_length (clocks : Rat) (c : Triangle) : (c.advance clocks).length = c.length :=
  iterate_keeps tick (fun d => d.length = c.length) (fun d hd => (tick_length d).trans hd) _ _ rfl

theorem Noise.advance_length (clocks : Rat) (c : Noise) : (c.advance clocks).length = c.length :=
  iterate_keeps tick (fun d => d.length = c.length) (fun _ hd => hd) _ _ rfl

section
variable (n : Nat) (clocks : Rat) (first h q : Bool)

/-- R383, R391: a slice changes a pulse channel's length counter by the half-frame clock alone. -/
theorem pulseOutput_length (c : Pulse) : (pulseOutput n clocks first h q c).2.length.toNat =
    if h then lengthAfter c.env.lengthHalt c.length.toNat else c.length.toNat := by
  have hloop : (pulseOutput n clocks first h q c).2.length = (c.clockUnits first h q).length :=
    sampleLoop_keeps _ _ (fun d : Pulse => d.length = _) (fun d hd => (d.advance_length clocks).trans hd) n _ rfl
  rw [hloop, Pulse.clockUnits_length, toNat_ite_lengthClock]

theorem triangleOutput_length (c : Triangle) : (triangleOutput n clocks h q c).2.length.toNat =
    if h then lengthAfter c.linControl c.length.toNat else c.length.toNat := by
  have hloop : (triangleOutput n clocks h q c).2.length = (c.clockUnits h q).length :=
    sampleLoop_keeps _ _ (fun d : Triangle => d.length = _) (fun d hd => (d.advance_length clocks).trans hd) n _ rfl
  rw [hloop, Triangle.clockUnits_length, toNat_ite_lengthClock]

theorem noiseOutput_length (c : Noise) : (noiseOutput n clocks h q c).2.length.toNat =
    if h then lengthAfter c.env.lengthHalt c.length.toNat else c.length.toNat := by
  have hloop : (noiseOutput n clocks h q c).2.length = (c.clockUnits h q).length :=
    sampleLoop_keeps _ _ (fun d : Noise => d.length = _) (fun d hd => (d.advance_length clocks).trans hd) n _ rfl
  rw [hloop, Noise.clockUnits_length, toNat_ite_lengthClock]

end

end Sys2Proof.Machine
end

section
/-! PROOFS. The DMC's share of a sequencer step, and the step (R376, R386 to R388, R394). -/

namespace Sys2Proof.Machine

open Sys2Proof.Spec

/-! ## What the DMC can change -/

/-- R386, R387: `t` is `s` up to the DMC, an IRQ that it requests, and what reads of its sample over the bus change. -/
structure DmcFrame (s t : State) : Prop where
  shape : t = { s with
    pending := t.pending, ppu := t.ppu, pads := t.pads, apu := { s.apu with dmc := t.apu.dmc, frameIrq := t.apu.frameIrq } }
  memories : Ppu.SameMemories t.ppu s.ppu
  mirroring : t.ppu.mirroring = s.ppu.mirroring
  frameIrq : t.apu.frameIrq = true → s.apu.frameIrq = true
  pending : t.pending = s.pending ∨ (s.pending = .none ∧ t.pending = .irq)
  dmcIrq : t.apu.dmc.dmcIrq = false → s.apu.dmc.dmcIrq = false ∧ t.pending = s.pending

theorem DmcFrame.refl (s : State) : DmcFrame s s := ⟨rfl, .refl _, rfl, id, .inl rfl, fun h => ⟨h, rfl⟩⟩

theorem DmcFrame.trans {s t u : State} (h : DmcFrame s t) (k : DmcFrame t u) : DmcFrame s u where
  shape := k.shape.trans (by rw [h.shape])
  memories := k.memories.trans h.memories
  mirroring := k.mirroring.trans h.mirroring
  frameIrq hu := h.frameIrq (k.frameIrq hu)
  pending := by
    rcases k.pending with hk | ⟨ht, hu⟩
    · rw [hk]; exact h.pending
    · rcases h.pending with hh | ⟨-, hirq⟩
      · exact .inr ⟨hh ▸ ht, hu⟩
      · rw [ht] at hirq; cases hirq
  dmcIrq hu := by
    obtain ⟨ht, hpu⟩ := k.dmcIrq hu
    obtain ⟨hs, hpt⟩ := h.dmcIrq ht
    exact ⟨hs, hpu.trans hpt⟩

/-- A change of the DMC alone that clears no interrupt flag. -/
theorem DmcFrame.setDmc {s t : State} (h : DmcFrame s t) {c : Dmc} (hc : c.dmcIrq = t.apu.dmc.dmcIrq) :
    DmcFrame s { t with apu := { t.apu with dmc := c } } :=
  h.trans ⟨rfl, .refl _, rfl, id, .inl rfl, fun hu => ⟨hc ▸ hu, rfl⟩⟩

/-- R373: a read can clear the frame interrupt flag, and never sets it. -/
theorem apuRead_frameIrq (n : Nat) (s : State) (h : (apuRead n s).2.apu.frameIrq = true) : s.apu.frameIrq = true := by
  unfold apuRead at h
  split at h
  · cases h
  · split at h
    · exact h
    · split at h <;> exact h

theorem deviceRead_frameIrq (dev : Device) (n : Nat) (s : State) (h : (deviceRead dev n s).2.apu.frameIrq = true) :
    s.apu.frameIrq = true := by
  cases dev with
  | apuIo => exact apuRead_frameIrq n s h
  | wram | ppuPorts | openDev | saveRam | prg base => exact h

theorem memRead_frameIrq (a : Addr) (s : State) : (memRead a s).2.apu.frameIrq = true → s.apu.frameIrq = true :=
  deviceRead_frameIrq _ _ s

theorem DmcFrame.memRead {s t : State} (h : DmcFrame s t) (a : Addr) : DmcFrame s (memRead a t).2 := by
  refine h.trans ?_
  have hirq := memRead_frameIrq a t
  obtain ⟨ppu, f, pads, hu, hmem, hmir⟩ := memRead_readFrame a t
  rw [hu] at hirq ⊢
  exact ⟨rfl, hmem, hmir, hirq, .inl rfl, fun hu => ⟨hu, rfl⟩⟩

/-! ## The sample reader and the ticks (R386 to R388) -/

/-- R386, R387: taking a byte raises the interrupt flag exactly when it asks for an IRQ, and clears it never. -/
theorem dmcTake_dmcIrq (b : Byte) (c : Dmc) : (dmcTake b c).1.dmcIrq = (c.dmcIrq || (dmcTake b c).2) := by
  unfold dmcTake
  dsimp only
  split
  · cases c.loop with
    | true => simp
    | false => cases c.irqEnable <;> simp
  · simp

theorem DmcFrame.dmcRefill {s t : State} (h : DmcFrame s t) : DmcFrame s (dmcRefill t) := by
  unfold Machine.dmcRefill
  split
  · have hread := h.memRead t.apu.dmc.curAddr
    generalize Machine.memRead t.apu.dmc.curAddr t = r at hread
    have hirq := dmcTake_dmcIrq r.1 r.2.apu.dmc
    dsimp only
    cases hraised : (dmcTake r.1 r.2.apu.dmc).2 with
    | false => exact hread.setDmc (by rw [hirq, hraised, Bool.or_false])
    | true =>
      rw [hraised, Bool.or_true] at hirq
      refine hread.trans ⟨rfl, .refl _, rfl, id, ?_, fun hu => absurd (hirq.symm.trans hu) (by decide)⟩
      show mergePending r.2.pending .irq = r.2.pending ∨ r.2.pending = .none ∧ mergePending r.2.pending .irq = .irq
      rw [mergePending_irq]
      split
      · exact .inr ⟨‹_›, rfl⟩
      · exact .inl rfl
  · exact h

theorem DmcFrame.dmcReload {s t : State} (h : DmcFrame s t) : DmcFrame s (dmcReload t) := by
  unfold Machine.dmcReload
  dsimp only
  split
  · split
    · exact DmcFrame.dmcRefill (h.setDmc rfl)
    · exact h.setDmc rfl
  · exact h

theorem Dmc.shiftOut_dmcIrq (c : Dmc) : c.shiftOut.dmcIrq = c.dmcIrq := by
  unfold shiftOut
  dsimp only
  repeat' split
  all_goals rfl

theorem DmcFrame.dmcTick {s t : State} (h : DmcFrame s t) : DmcFrame s (dmcTick t) :=
  h.dmcReload.setDmc (Dmc.shiftOut_dmcIrq _)

theorem DmcFrame.dmcAdvance {s t : State} (h : DmcFrame s t) (clocks : Rat) : DmcFrame s (dmcAdvance clocks t) :=
  iterate_keeps Machine.dmcTick (DmcFrame s) (fun _ hu => hu.dmcTick) _ _ (h.setDmc rfl)

theorem dmcOutput_frame (n : Nat) (clocks : Rat) (s : State) : DmcFrame s (dmcOutput n clocks s).2 :=
  sampleLoop_keeps _ _ (DmcFrame s) (fun _ ht => ht.dmcAdvance clocks) n s (.refl s)

/-! ## A sample in PRG (R79, R386) -/

/-- The DMC reads from 0x8000 on: the current address and the one that a looped sample starts again from. -/
structure RomSample (c : Dmc) : Prop where
  curAddr : 0x8000 ≤ c.curAddr.toNat
  sampleAddr : 0x8000 ≤ c.sampleAddr.toNat

/-- What a read over the bus can change is the same in `t` as in `s`, and the DMC reads from PRG. -/
structure RomFrame (s t : State) : Prop where
  busMap : t.busMap = s.busMap
  cart : t.cart = s.cart
  ppu : t.ppu = s.ppu
  pads : t.pads = s.pads
  frameIrq : t.apu.frameIrq = s.apu.frameIrq
  sample : RomSample t.apu.dmc

theorem RomFrame.setDmc {s t : State} (h : RomFrame s t) {c : Dmc} (hc : RomSample c) :
    RomFrame s { t with apu := { t.apu with dmc := c } } := ⟨h.1, h.2, h.3, h.4, h.5, hc⟩

/-- R386: the address after 0xFFFF is 0x8000, so the reader stays in PRG. -/
theorem RomSample.dmcTake {c : Dmc} (h : RomSample c) (b : Byte) : RomSample (dmcTake b c).1 := by
  obtain ⟨hcur, hsample⟩ := h
  have hnext : 0x8000 ≤ (if c.curAddr = 0xFFFF then (0x8000 : Addr) else c.curAddr + 1).toNat := by
    split
    · decide
    · bv_omega
  unfold Machine.dmcTake
  dsimp only
  generalize (if c.curAddr = 0xFFFF then (0x8000 : Addr) else c.curAddr + 1) = next at hnext ⊢
  split
  · split
    · exact ⟨hsample, hsample⟩
    · split <;> exact ⟨hnext, hsample⟩
  · exact ⟨hnext, hsample⟩

section
variable {s : State} (hs : s.Inv)
include hs

theorem RomFrame.dmcRefill {t : State} (h : RomFrame s t) : RomFrame s (dmcRefill t) := by
  unfold Machine.dmcRefill
  split
  · have hread : memRead t.apu.dmc.curAddr t = (peek s t.apu.dmc.curAddr, t) :=
      memRead_prg hs h.busMap h.cart h.sample.curAddr
    have htake := h.setDmc (h.sample.dmcTake (peek s t.apu.dmc.curAddr))
    rw [hread]
    dsimp only
    split
    · exact ⟨htake.1, htake.2, htake.3, htake.4, htake.5, htake.6⟩
    · exact htake
  · exact h

theorem RomFrame.dmcReload {t : State} (h : RomFrame s t) : RomFrame s (dmcReload t) := by
  unfold Machine.dmcReload
  dsimp only
  split
  · split
    · exact RomFrame.dmcRefill hs (h.setDmc ⟨h.sample.1, h.sample.2⟩)
    · exact h.setDmc ⟨h.sample.1, h.sample.2⟩
  · exact h

theorem RomFrame.dmcTick {t : State} (h : RomFrame s t) : RomFrame s (dmcTick t) := by
  have hshift : ∀ {c : Dmc}, RomSample c → RomSample c.shiftOut := by
    intro c hc
    unfold Dmc.shiftOut
    dsimp only
    repeat' split
    all_goals exact ⟨hc.1, hc.2⟩
  exact (h.dmcReload hs).setDmc (hshift (h.dmcReload hs).sample)

theorem dmcOutput_romFrame (n : Nat) (clocks : Rat) {t : State} (h : RomFrame s t) : RomFrame s (dmcOutput n clocks t).2 := by
  refine sampleLoop_keeps _ _ (RomFrame s) (fun u hu => ?_) n t h
  exact iterate_keeps dmcTick (RomFrame s) (fun _ hv => hv.dmcTick hs) _ _ (hu.setDmc ⟨hu.sample.1, hu.sample.2⟩)

end

/-! ## The sequencer's move (R376, R252) -/

/-- R376: the last index of the sequence. -/
def lastIndex (mode : Bool) : Nat := if mode then 4 else 3

/-- R376: the wrap of the 4-step sequence, not inhibited. -/
def RaisesIrq (a : Apu) : Prop := a.seqIndex = lastIndex a.seqMode ∧ a.seqMode = false ∧ a.frameIrqInhibit = false

theorem sequencerAdvance_of_raises {s : State} (h : RaisesIrq s.apu) : sequencerAdvance s =
    { s with pending := if s.pending = .none then .irq else s.pending, apu := { s.apu with seqIndex := 0, frameIrq := true } } := by
  obtain ⟨hlast, hquiet⟩ := h
  rw [← mergePending_irq]
  exact (if_pos hlast).trans (if_pos hquiet)

theorem sequencerAdvance_of_not_raises {s : State} (h : ¬ RaisesIrq s.apu) (hi : s.apu.seqIndex ≤ lastIndex s.apu.seqMode) :
    sequencerAdvance s = { s with apu := { s.apu with seqIndex := (s.apu.seqIndex + 1) % (lastIndex s.apu.seqMode + 1) } } := by
  by_cases hlast : s.apu.seqIndex = lastIndex s.apu.seqMode
  · have hzero : (s.apu.seqIndex + 1) % (lastIndex s.apu.seqMode + 1) = 0 := by rw [hlast, Nat.mod_self]
    rw [hzero]
    exact (if_pos hlast).trans (if_neg fun hquiet => h ⟨hlast, hquiet⟩)
  · have hnext : (s.apu.seqIndex + 1) % (lastIndex s.apu.seqMode + 1) = s.apu.seqIndex + 1 := Nat.mod_eq_of_lt (by omega)
    rw [hnext]
    exact if_neg hlast

/-- R376: what the sequencer's move changes, whether or not it raises the frame interrupt. -/
theorem sequencerAdvance_changes {s : State} (hi : s.apu.seqIndex ≤ lastIndex s.apu.seqMode) : ∃ pending f,
    sequencerAdvance s = { s with pending := pending, apu := { s.apu with
      seqIndex := (s.apu.seqIndex + 1) % (lastIndex s.apu.seqMode + 1), frameIrq := f } } ∧
    (RaisesIrq s.apu → f = true ∧ pending ≠ .none) ∧
    (¬ RaisesIrq s.apu → f = s.apu.frameIrq ∧ pending = s.pending) ∧
    (pending = s.pending ∨ (s.pending = .none ∧ pending = .irq)) := by
  by_cases h : RaisesIrq s.apu
  · have hzero : (s.apu.seqIndex + 1) % (lastIndex s.apu.seqMode + 1) = 0 := by rw [h.1, Nat.mod_self]
    rw [hzero]
    refine ⟨_, _, sequencerAdvance_of_raises h, fun _ => ⟨rfl, ?_⟩, fun hn => absurd h hn, ?_⟩
    · split
      · decide
      · assumption
    · split
      · exact .inr ⟨‹_›, rfl⟩
      · exact .inl rfl
  · exact ⟨_, _, sequencerAdvance_of_not_raises h hi, fun hr => absurd hr h, fun _ => ⟨rfl, rfl⟩, .inl rfl⟩

/-! ## The step (R376) -/

/-- R376, R395: the four channels that do not touch the bus, after their slice. -/
def channelsStepped (n : Nat) (clocks : Rat) (a : Apu) : Apu :=
  let c := sequencerClocks a.seqMode a.seqIndex
  { a with
    pulse1 := (pulseOutput n clocks true c.2 c.1 a.pulse1).2
    pulse2 := (pulseOutput n clocks false c.2 c.1 a.pulse2).2
    triangle := (triangleOutput n clocks c.2 c.1 a.triangle).2
    noise := (noiseOutput n clocks c.2 c.1 a.noise).2 }

/-- R376: a step is the channels' slice, the DMC's, `n` more samples, and the sequencer's move. -/
theorem stepFrameWith_eq (n : Nat) (clocks : Rat) (s : State) : ∃ samples, samples.length = n ∧
    let d := (dmcOutput n clocks { s with apu := channelsStepped n clocks s.apu }).2
    stepFrameWith n clocks s = sequencerAdvance { d with apu := { d.apu with audio := d.apu.audio ++ samples } } :=
  ⟨_, length_mixSlice (length_sampleLoop _ _ _ _) (length_sampleLoop _ _ _ _) (length_sampleLoop _ _ _ _)
    (length_sampleLoop _ _ _ _) (length_sampleLoop _ _ _ _), rfl⟩

/-- R376: the state after a step, by the state `d` that the DMC's slice leaves. -/
theorem stepFrameWith_changes (n : Nat) (clocks : Rat) {s : State} (h : s.Inv) : ∃ d samples pending f,
    samples.length = n ∧
    DmcFrame { s with apu := channelsStepped n clocks s.apu } d ∧
    (RomSample s.apu.dmc → RomFrame s d) ∧
    (RaisesIrq s.apu → f = true ∧ pending ≠ .none) ∧
    (¬ RaisesIrq s.apu → f = d.apu.frameIrq ∧ pending = d.pending) ∧
    (pending = d.pending ∨ (d.pending = .none ∧ pending = .irq)) ∧
    stepFrameWith n clocks s = { s with
      pending := pending, ppu := d.ppu, pads := d.pads
      apu := { channelsStepped n clocks s.apu with
        dmc := d.apu.dmc, frameIrq := f, audio := s.apu.audio ++ samples
        seqIndex := (s.apu.seqIndex + 1) % (lastIndex s.apu.seqMode + 1) } } := by
  obtain ⟨samples, hlen, ht⟩ := stepFrameWith_eq n clocks s
  have hd := dmcOutput_frame n clocks { s with apu := channelsStepped n clocks s.apu }
  have hrom : RomSample s.apu.dmc → RomFrame s _ :=
    fun hr => dmcOutput_romFrame h n clocks (t := { s with apu := channelsStepped n clocks s.apu }) ⟨rfl, rfl, rfl, rfl, rfl, hr⟩
  generalize (dmcOutput n clocks { s with apu := channelsStepped n clocks s.apu }).2 = d at ht hd hrom
  have hindex : d.apu.seqIndex = s.apu.seqIndex := by rw [hd.shape]; rfl
  have hmode : d.apu.seqMode = s.apu.seqMode := by rw [hd.shape]; rfl
  have hinhibit : d.apu.frameIrqInhibit = s.apu.frameIrqInhibit := by rw [hd.shape]; rfl
  have hraises : RaisesIrq d.apu ↔ RaisesIrq s.apu := by rw [RaisesIrq, hindex, hmode, hinhibit, RaisesIrq]
  obtain ⟨pending, f, hmove, hyes, hno, hpending⟩ := sequencerAdvance_changes
    (s := { d with apu := { d.apu with audio := d.apu.audio ++ samples } }) (by rw [hindex, hmode]; exact h.apu.seqIndex)
  refine ⟨d, samples, pending, f, hlen, hd, hrom, fun hr => hyes (hraises.2 hr), fun hr => hno fun hr' => hr (hraises.1 hr'),
    hpending, ?_⟩
  rw [ht, hmove]
  dsimp only
  rw [hindex, hmode]
  conv_lhs => rw [hd.shape]
  rfl

/-- R252, R386: the sequencer's IRQ after the DMC's takes an empty slot only. -/
theorem irq_taken_trans {p q r : Tag} (h : q = p ∨ (p = .none ∧ q = .irq)) (k : r = q ∨ (q = .none ∧ r = .irq)) :
    r = p ∨ (p = .none ∧ r = .irq) := by
  rcases k with rfl | ⟨rfl, rfl⟩
  · exact h
  · rcases h with rfl | ⟨-, hirq⟩
    · exact .inr ⟨rfl, rfl⟩
    · cases hirq

/-- Settles O55: the channels' slices, the DMC's frame and the sequencer's move. -/
theorem sequencerStep : Obligations.SequencerStep := by
  intro n clocks s h
  obtain ⟨d, samples, pending, f, hlen, hd, hrom, hyes, hno, hpending, ht⟩ := stepFrameWith_changes n clocks h
  have hhalf : (sequencerClocks s.apu.seqMode s.apu.seqIndex).2 = halfFrame s.apu.seqMode s.apu.seqIndex :=
    sequencerClocks_half h.apu.seqIndex
  obtain ⟨hpattern, hnt, hpalette, hoam, hsprite, hframe⟩ := hd.memories
  rw [ht]
  intro t last half raises
  refine ⟨⟨samples, hlen, rfl⟩, rfl, rfl, rfl, hyes, fun hr => ?_, irq_taken_trans hd.pending hpending, ?_, ?_, ?_, ?_,
    rfl, rfl, rfl, rfl, rfl, rfl, rfl, rfl, rfl, rfl, rfl, rfl, rfl, rfl, rfl,
    hpattern, hnt, hpalette, hoam, hsprite, hframe, hd.mirroring, fun hcur hsample => ?_⟩
  · obtain ⟨hf, hp⟩ := hno hr
    exact ⟨fun hirq => hd.frameIrq (hf ▸ hirq), fun hquiet => hp.trans (hd.dmcIrq hquiet).2⟩
  · exact (pulseOutput_length _ _ _ _ _ _).trans (by rw [hhalf])
  · exact (pulseOutput_length _ _ _ _ _ _).trans (by rw [hhalf])
  · exact (triangleOutput_length _ _ _ _ _).trans (by rw [hhalf])
  · exact (noiseOutput_length _ _ _ _ _).trans (by rw [hhalf])
  · have hsame := hrom ⟨hcur, hsample⟩
    refine ⟨hsame.ppu, hsame.pads, ?_⟩
    by_cases hr : raises
    · rw [decide_eq_true hr, Bool.or_true]
      exact (hyes hr).1
    · rw [decide_eq_false hr, Bool.or_false]
      exact (hno hr).1.trans hsame.frameIrq

end Sys2Proof.Machine
end

section
/-! PROOFS. The save flush, and the end of a line and of a frame (R377, R455, R456, R458, R465). -/

namespace Sys2Proof.Machine

open Sys2Proof.Spec

/-! ## The flush (R465) -/

/-- R465: a frame end changes the counters of the flush policy and the saves alone. -/
theorem endOfFrameFlush_changes (s : State) : ∃ last idle busy saves, endOfFrameFlush s = { s with
    orch := { s.orch with lastDirty := last, flushIdle := idle, flushBusy := busy }, io := { s.io with saves := saves } } := by
  have hcounters : ∃ last idle busy, flushCounters s =
      { s with orch := { s.orch with lastDirty := last, flushIdle := idle, flushBusy := busy } } := by
    unfold flushCounters
    split
    · exact ⟨_, _, _, rfl⟩
    · split
      · exact ⟨s.orch.lastDirty, _, _, rfl⟩
      · exact ⟨s.orch.lastDirty, s.orch.flushIdle, s.orch.flushBusy, rfl⟩
  obtain ⟨last, idle, busy, hc⟩ := hcounters
  unfold endOfFrameFlush
  split
  · rw [hc]
    dsimp only
    split
    · exact ⟨last, 0, 0, _, rfl⟩
    · exact ⟨last, idle, busy, s.io.saves, rfl⟩
  · exact ⟨s.orch.lastDirty, s.orch.flushIdle, s.orch.flushBusy, s.io.saves, rfl⟩

/-! ## The end of a line (R377, R455, R458) -/

theorem DmcFrame.orch_eq {s t : State} (h : DmcFrame s t) : t.orch = s.orch := by rw [h.shape]

theorem stepFrame_orch (s : State) : (stepFrame s).orch = s.orch := by
  have hmove : ∀ t : State, (sequencerAdvance t).orch = t.orch := by
    intro t
    unfold sequencerAdvance
    generalize (if t.apu.seqMode then 4 else 3) = last
    dsimp only
    split
    · split <;> rfl
    · rfl
  obtain ⟨samples, -, ht⟩ := stepFrameWith_eq Config.samplesPerSlice Config.clocksPerSample s
  rw [stepFrame, ht, hmove]
  exact (dmcOutput_frame _ _ _).orch_eq

/-- R458, R377: the state after the budget is taken and, on the sequencer's lines, the sequencer has stepped. -/
def lineSpent (s : State) : State := if s.orch.line ∈ [0, 66, 131, 197] then stepFrame (spendBudget s) else spendBudget s

theorem lineSpent_orch (s : State) : (lineSpent s).orch = s.orch := by
  unfold lineSpent
  split
  · exact stepFrame_orch _
  · rfl

theorem lineEnd_eq (s : State) : lineEnd s =
    if s.orch.line + 1 < Config.linesPerFrame then
      { lineSpent s with orch := { (lineSpent s).orch with line := s.orch.line + 1, phase := .lineStart } }
    else endFrame (lineSpent s) := by
  have hmem : sequencerLines.contains s.orch.line = true ↔ s.orch.line ∈ [0, 66, 131, 197] := List.contains_iff_mem
  simp only [lineEnd, hmem]
  rfl

/-! ## The end of a frame (R49, R455, R456) -/

theorem endFrame_eq (s : State) :
    let f := endOfFrameFlush { s with orch := { s.orch with line := 0 } }
    endFrame s = { f with
      io := { f.io with outbox := f.io.outbox ++
        [{ pixels := if s.orch.skipping then none else some s.ppu.frame, audio := some s.apu.audio }] }
      apu := { f.apu with audio := [] }
      orch := { f.orch with phase := .idle, skipping := false, skipRun := if s.orch.skipping then f.orch.skipRun else 0 } } := by
  obtain ⟨last, idle, busy, saves, hf⟩ := endOfFrameFlush_changes { s with orch := { s.orch with line := 0 } }
  unfold endFrame
  dsimp only
  rw [hf]
  rfl

/-- Settles O25: the spent line, then the next line or the end of the frame. -/
theorem lineEndResult : Obligations.LineEndResult := by
  intro s hphase hcyc
  have hstep : step s = .next (lineEnd s) := step_of_spent hphase (Nat.not_lt.2 hcyc)
  refine ⟨fun hline => ?_, fun hline => ?_⟩
  · have hnext : s.orch.line + 1 < Config.linesPerFrame := Nat.succ_lt_succ hline
    rw [hstep, lineEnd_eq, if_pos hnext]
    rfl
  · have hlast : ¬ s.orch.line + 1 < Config.linesPerFrame := by rw [hline]; decide
    have hend := endFrame_eq (lineSpent s)
    have hskip : (lineSpent s).orch.skipping = s.orch.skipping := by rw [lineSpent_orch]
    rw [hskip] at hend
    rw [hstep, lineEnd_eq, if_neg hlast, hend]
    rfl

end Sys2Proof.Machine
end

section
/-! PROOFS. The requests between frames (R450, R451, R454, R456, R459, R460, R466). -/

namespace Sys2Proof.Machine

open Sys2Proof.Spec

/-- R460: the save buffer of a payload, cut or zero-padded to 8192 bytes. -/
theorem read_saveBuffer (bytes : List Byte) (i : Nat) :
    Memory.read (saveBuffer bytes) i = if i < 8192 then bytes.getD i 0 else 0 := by
  have hread := Sparse.read_ofList (z := (0 : Byte)) (l := bytes.take 8192) (a := 0) (i := i)
  rw [Nat.zero_add] at hread
  rw [Memory.read, saveBuffer, hread, List.getD_eq_getElem?_getD]
  split
  · rename_i hi
    rw [List.getElem?_take_of_lt hi, List.getD_eq_getElem?_getD]
  · rename_i hi
    rw [List.getElem?_eq_none ((List.length_take_le _ _).trans (Nat.not_lt.1 hi))]
    rfl

theorem idleStep_of_nil {s : State} (hin : s.io.inbox = []) : idleStep s = s := by
  simp [idleStep, hin]

/-- R466: a halted core answers every request with the empty response. -/
theorem idleStep_of_halted {s : State} {r : Request} {rest : List Request} (hin : s.io.inbox = r :: rest)
    (hhalt : s.orch.halted = true) : idleStep s = answered rest s := by
  simp [idleStep, hin, hhalt, answered, respond, emptyResponse]

/-- R459: a shutdown saves the buffer of a cartridge with a battery, and halts the core. -/
theorem idleStep_of_shutdown {s : State} {rest : List Request} (hin : s.io.inbox = .shutdown :: rest)
    (hrun : s.orch.halted = false) : idleStep s = { answered rest s with
      orch := { s.orch with halted := true }
      io := { (answered rest s).io with
        saves := s.io.saves ++ (if s.cart.battery then [{ key := s.cart.identity, bytes := s.saveRam }] else []) } } := by
  rw [idleStep_of_cons hin hrun, handleRequest]
  cases hbat : s.cart.battery with
  | false => simp [answered, respond, emptyResponse]
  | true => simp [answered, respond, emptyResponse, saveNow]

/-- Settles O58, request by request. -/
theorem requestEffects : Obligations.RequestEffects := by
  intro s hidle
  rw [step_of_idle hidle]
  refine ⟨fun hin => ?_, fun r rest hin hhalt => ?_, fun rest hrun hin => ?_, fun rest payload hrun hin => ?_,
    fun rest payload hrun hin hbat => ?_, fun rest payload hrun hin hbat => ?_, fun rest p q hrun hin hcap => ?_,
    fun rest hrun hin => ?_⟩
  · rw [idleStep_of_nil hin]
  · rw [idleStep_of_halted hin hhalt]
  · rw [idleStep_of_cons hin hrun]
    rfl
  · rw [idleStep_of_cons hin hrun]
    rfl
  · refine ⟨saveBuffer payload, ?_, read_saveBuffer payload⟩
    rw [idleStep_of_cons hin hrun, handleRequest, storeResponse, if_pos hbat]
    rfl
  · rw [idleStep_of_cons hin hrun, handleRequest, storeResponse, if_neg (Bool.eq_false_iff.1 hbat)]
    rfl
  · exact congrArg Host.Outcome.next ((idleStep_of_cons hin hrun).trans (if_pos hcap))
  · refine ⟨_, rfl, ?_⟩
    rw [idleStep_of_shutdown hin hrun]
    exact ⟨rfl, rfl, rfl⟩

end Sys2Proof.Machine
end

section
/-! PROOFS. When the save buffer is saved (R78, R465). -/

namespace Sys2Proof.Machine

open Sys2Proof.Spec

/-! ## One frame end (R465) -/

section
variable {s : State} (hbat : s.cart.battery = true)

include hbat

/-- R465: the frame end after the counters `o`, which are not at a threshold. -/
theorem endOfFrameFlush_of_below {o : Orchestrator} (hc : flushCounters s = { s with orch := o })
    (hidle : o.flushIdle < 60) (hbusy : o.flushBusy < 600) : endOfFrameFlush s = { s with orch := o } := by
  unfold endOfFrameFlush
  rw [if_pos hbat, hc]
  exact if_neg fun h => by
    have h60 : o.flushIdle < Config.flushIdleFrames := hidle
    have h600 : o.flushBusy < Config.flushForceFrames := hbusy
    rcases h.2 with hi | hb
    · exact Nat.not_lt.2 hi h60
    · exact Nat.not_lt.2 hb h600

/-- R465: the frame end after the counters `o`, one of which is at its threshold: the buffer is saved. -/
theorem endOfFrameFlush_of_due {o : Orchestrator} (hc : flushCounters s = { s with orch := o })
    (hbusy : 0 < o.flushBusy) (hdue : 60 ≤ o.flushIdle ∨ 600 ≤ o.flushBusy) : (endOfFrameFlush s).io.saves =
      s.io.saves ++ [{ key := s.cart.identity, bytes := s.saveRam }] := by
  unfold endOfFrameFlush
  rw [if_pos hbat, hc]
  exact congrArg (fun t : State => t.io.saves) (if_pos ⟨hbusy, hdue⟩)

end

/-- R465: a frame end that notices writes. -/
theorem flushCounters_of_written {s : State} (h : s.saveDirty ≠ s.orch.lastDirty) : flushCounters s =
    { s with orch := { s.orch with lastDirty := s.saveDirty, flushIdle := 0, flushBusy := s.orch.flushBusy + 1 } } := if_pos h

/-- R465: a frame end without new writes, after one that noticed some. -/
theorem flushCounters_of_still {s : State} (h : s.saveDirty = s.orch.lastDirty) (hbusy : 0 < s.orch.flushBusy) :
    flushCounters s = { s with orch := { s.orch with flushIdle := s.orch.flushIdle + 1, flushBusy := s.orch.flushBusy + 1 } } :=
  (if_neg (not_not.2 h)).trans (if_pos hbusy)

theorem endOfFrameFlush_of_no_battery {s : State} (h : s.cart.battery = false) : endOfFrameFlush s = s :=
  if_neg (Bool.eq_false_iff.1 h)

/-! ## Frame end after frame end -/

/-- The counters after a noticed write and `j` still frames. -/
theorem quiet_frames {s : State} (hbat : s.cart.battery = true) (hdirty : s.saveDirty ≠ s.orch.lastDirty)
    (hbusy : s.orch.flushBusy = 0) {j : Nat} (hj : j < 60) : Nat.iterate endOfFrameFlush (j + 1) s =
      { s with orch := { s.orch with lastDirty := s.saveDirty, flushIdle := j, flushBusy := j + 1 } } := by
  induction j with
  | zero =>
    have hc := flushCounters_of_written hdirty
    rw [hbusy] at hc
    exact endOfFrameFlush_of_below hbat hc (show 0 < 60 by decide) (show 0 + 1 < 600 by decide)
  | succ j ih =>
    rw [Function.iterate_succ_apply', ih (by omega)]
    refine endOfFrameFlush_of_below ?_ (flushCounters_of_still ?_ ?_) ?_ ?_
    · exact hbat
    · rfl
    · exact Nat.succ_pos j
    · exact hj
    · show j + 1 + 1 < 600
      omega

/-- R465: the buffer is saved at the 61st frame end after a noticed write, when the counter has stood still for 60 frames. -/
theorem quiet_saves {s : State} (hbat : s.cart.battery = true) (hdirty : s.saveDirty ≠ s.orch.lastDirty)
    (hbusy : s.orch.flushBusy = 0) {k : Nat} (hk : k ≤ 61) : (Nat.iterate endOfFrameFlush k s).io.saves =
      s.io.saves ++ (if k = 61 then [{ key := s.cart.identity, bytes := s.saveRam }] else []) := by
  cases k with
  | zero => exact (List.append_nil _).symm
  | succ j =>
    by_cases hj : j < 60
    · rw [quiet_frames hbat hdirty hbusy hj, if_neg (by omega), List.append_nil]
    · obtain rfl : j = 59 + 1 := by omega
      rw [Function.iterate_succ_apply', quiet_frames hbat hdirty hbusy (by decide), if_pos rfl]
      exact endOfFrameFlush_of_due hbat (flushCounters_of_still rfl (Nat.succ_pos 59)) (Nat.succ_pos 60) (.inl (Nat.le_refl 60))

/-- The counters after `j + 1` frames with a write in each. -/
theorem busy_frames {s : State} (hbat : s.cart.battery = true) (hclean : s.saveDirty = s.orch.lastDirty)
    (hbusy : s.orch.flushBusy = 0) {j : Nat} (hj : j + 1 < 600) : Nat.iterate dirtyFrameEnd (j + 1) s =
      { s with saveDirty := s.saveDirty + (j + 1),
               orch := { s.orch with lastDirty := s.saveDirty + (j + 1), flushIdle := 0, flushBusy := j + 1 } } := by
  induction j with
  | zero =>
    have hc := flushCounters_of_written (s := { s with saveDirty := s.saveDirty + 1 })
      (show s.saveDirty + 1 ≠ s.orch.lastDirty by omega)
    dsimp only at hc
    rw [hbusy] at hc
    exact endOfFrameFlush_of_below (s := { s with saveDirty := s.saveDirty + 1 }) hbat hc (show 0 < 60 by decide)
      (show 0 + 1 < 600 by decide)
  | succ j ih =>
    rw [Function.iterate_succ_apply', ih (by omega)]
    refine endOfFrameFlush_of_below ?_ (flushCounters_of_written ?_) ?_ ?_
    · exact hbat
    · exact Nat.succ_ne_self _
    · exact show 0 < 60 by decide
    · exact hj

/-- R465: a buffer written in every frame is saved at the 600th frame end. -/
theorem busy_saves {s : State} (hbat : s.cart.battery = true) (hclean : s.saveDirty = s.orch.lastDirty)
    (hbusy : s.orch.flushBusy = 0) {k : Nat} (hk : k ≤ 600) : (Nat.iterate dirtyFrameEnd k s).io.saves =
      s.io.saves ++ (if k = 600 then [{ key := s.cart.identity, bytes := s.saveRam }] else []) := by
  cases k with
  | zero => exact (List.append_nil _).symm
  | succ j =>
    by_cases hj : j + 1 < 600
    · rw [busy_frames hbat hclean hbusy hj, if_neg (by omega), List.append_nil]
    · obtain rfl : j = 598 + 1 := by omega
      rw [Function.iterate_succ_apply', busy_frames hbat hclean hbusy (by decide), if_pos rfl]
      exact endOfFrameFlush_of_due hbat (flushCounters_of_written (Nat.succ_ne_self _)) (Nat.succ_pos 599) (.inr (Nat.le_refl 600))

/-- Settles O60: both runs frame end by frame end. -/
theorem saveFlushed : Obligations.SaveFlushed := fun _ _ =>
  ⟨fun hbat hdirty hbusy hk => quiet_saves hbat hdirty hbusy hk, fun hbat hclean hbusy hk => busy_saves hbat hclean hbusy hk,
    endOfFrameFlush_of_no_battery⟩

end Sys2Proof.Machine
end
